-- ==== Sys2Proof/Word.lean ====
section
/-! DEFINITION. The word types of the block and of the sensor's register space. -/

namespace Sys2Proof

/-- One framed byte (spec 40_transport.md R122, R124). -/
abbrev Byte := BitVec 8

/-- One device register word: "Every device register is one 16-bit word" (spec 00_scope.md R7, R11). -/
abbrev Word := BitVec 16

/-- A device register address, "one framed byte" (spec 20_memory.md R60). -/
abbrev RegAddr := BitVec 8

/-- One command word as presented on the `cmd_word` port (spec 30_encoding.md R90). -/
abbrev CmdWord := BitVec 64

/-- The 7-bit bus address (spec 10_state.md R25). -/
abbrev BusAddr := BitVec 7

/-- The lens factor in Q16.16 (spec 10_state.md R24). -/
abbrev Lens := BitVec 32

end Sys2Proof
end

