-- ==== Sys2Proof/Syntax.lean ====
section
/-! DEFINITION. The command set: one constructor per row of the opcode table (spec 30_encoding.md R92, R93). -/

namespace Sys2Proof

/-- A decoded command record (spec 30_encoding.md R92). A word that is no row of the table decodes to ILLEGAL, which is
no command: `none` where an `Option Instr` stands. -/
inductive Instr where
  /-- BEGIN, initialize (spec 41_device_state.md R152). -/
  | begin
  /-- READ_WORD, read the device register `reg` (spec 40_transport.md R126). -/
  | readWord (reg : RegAddr)
  /-- WRITE_WORD, write `v` to the device register `reg` (spec 40_transport.md R127). -/
  | writeWord (reg : RegAddr) (v : Word)
  /-- READ_ALS, read the raw ALS count (spec 42_converter.md R190). -/
  | readAls
  /-- GET_LUX, compute illuminance (spec 42_converter.md R192). -/
  | getLux
  /-- SET_INT_EN, enable (`1`) or disable (`0`) the interrupt (spec 43_interrupt.md R212). -/
  | setIntEn (en : BitVec 1)
  /-- ARM_THRESHOLD with the percentage `p`, an integer (spec 43_interrupt.md R220, 30_encoding.md R94). -/
  | armThreshold (p : Int)
  /-- READ_CLEAR_FLAGS, read the interrupt flags (spec 43_interrupt.md R230). -/
  | readClearFlags
  /-- GET_LENS, read the lens factor (spec 41_device_state.md R160). -/
  | getLens
  /-- SET_LENS, write the lens factor (spec 41_device_state.md R162). -/
  | setLens (v : Lens)
  /-- RELEASE, end of the object's life (spec 41_device_state.md R156). -/
  | release
deriving DecidableEq, Repr

end Sys2Proof
end

