-- ==== Sys2Proof/WellFormed.lean ====
section
/-! DEFINITION. Which commands the encoding can express. -/

namespace Sys2Proof

/-- A command whose operands fit their fields. Only ARM_THRESHOLD has an operand of unlimited type: its percentage is
"a signed 16-bit two's complement percentage … so −32768 ≤ p ≤ 32767" (spec 30_encoding.md R94). Every other operand's
type is its field's width. -/
abbrev Instr.WellFormed : Instr → Prop
  | .begin => True
  | .readWord _ => True
  | .writeWord _ _ => True
  | .readAls => True
  | .getLux => True
  | .setIntEn _ => True
  | .armThreshold p => -32768 ≤ p ∧ p ≤ 32767
  | .readClearFlags => True
  | .getLens => True
  | .setLens _ => True
  | .release => True

end Sys2Proof
end

