-- ==== Sys2Proof/Decode.lean ====
section
/-! DEFINITION. The decoder, total on all 2^64 command words, and the encoder (spec 30_encoding.md R90 to R95). -/

namespace Sys2Proof

/-! ## The fields of a command word (R90) -/

/-- `OP`, bits 3..0. -/
def CmdWord.op (w : CmdWord) : BitVec 4 := w.extractLsb' 0 4
/-- `RSV`, bits 7..4, "reserved, must be 0". -/
def CmdWord.rsv (w : CmdWord) : BitVec 4 := w.extractLsb' 4 4
/-- `REG`, bits 15..8. -/
def CmdWord.reg (w : CmdWord) : RegAddr := w.extractLsb' 8 8
/-- `DATA`, bits 31..16. -/
def CmdWord.data (w : CmdWord) : Word := w.extractLsb' 16 16
/-- `ARG`, bits 63..32. -/
def CmdWord.arg (w : CmdWord) : BitVec 32 := w.extractLsb' 32 32

/-- A command word from its five fields (R90). -/
def CmdWord.pack (op rsv : BitVec 4) (reg : RegAddr) (data : Word) (arg : BitVec 32) : CmdWord :=
  arg ++ data ++ reg ++ rsv ++ op

/-- "require c returns ILLEGAL when c is false" (R92). -/
def require (c : Prop) [Decidable c] (i : Instr) : Option Instr := if c then some i else none

/-- `decode(cmd_word)`: the command of the word, or `none` for ILLEGAL (R92, R95). -/
def decode (w : CmdWord) : Option Instr :=
  if CmdWord.rsv w ≠ 0 then none
  else
    match (CmdWord.op w).toNat with
    | 1 => require (CmdWord.reg w = 0 ∧ CmdWord.data w = 0 ∧ CmdWord.arg w = 0) .begin
    | 2 => require (CmdWord.data w = 0 ∧ CmdWord.arg w = 0) (.readWord (CmdWord.reg w))
    | 3 => require (CmdWord.arg w = 0) (.writeWord (CmdWord.reg w) (CmdWord.data w))
    | 4 => require (CmdWord.reg w = 0 ∧ CmdWord.data w = 0 ∧ CmdWord.arg w = 0) .readAls
    | 5 => require (CmdWord.reg w = 0 ∧ CmdWord.data w = 0 ∧ CmdWord.arg w = 0) .getLux
    | 6 =>
      require (CmdWord.reg w = 0 ∧ (CmdWord.data w).extractLsb' 1 15 = 0 ∧ CmdWord.arg w = 0)
        (.setIntEn ((CmdWord.data w).extractLsb' 0 1))
    | 7 =>
      require (CmdWord.reg w = 0 ∧ CmdWord.arg w = 0)
        (.armThreshold ((CmdWord.data w).signExtend 32).toInt)
    | 8 => require (CmdWord.reg w = 0 ∧ CmdWord.data w = 0 ∧ CmdWord.arg w = 0) .readClearFlags
    | 9 => require (CmdWord.reg w = 0 ∧ CmdWord.data w = 0 ∧ CmdWord.arg w = 0) .getLens
    | 10 => require (CmdWord.reg w = 0 ∧ CmdWord.data w = 0) (.setLens (CmdWord.arg w))
    | 11 => require (CmdWord.reg w = 0 ∧ CmdWord.data w = 0 ∧ CmdWord.arg w = 0) .release
    | _ => none

/-- The command word of a command (R90, R93, R94). ARM_THRESHOLD's percentage goes in as its 16-bit two's complement. -/
def encode : Instr → CmdWord
  | .begin => CmdWord.pack 0x1 0 0 0 0
  | .readWord reg => CmdWord.pack 0x2 0 reg 0 0
  | .writeWord reg v => CmdWord.pack 0x3 0 reg v 0
  | .readAls => CmdWord.pack 0x4 0 0 0 0
  | .getLux => CmdWord.pack 0x5 0 0 0 0
  | .setIntEn en => CmdWord.pack 0x6 0 0 (en.zeroExtend 16) 0
  | .armThreshold p => CmdWord.pack 0x7 0 0 (BitVec.ofInt 16 p) 0
  | .readClearFlags => CmdWord.pack 0x8 0 0 0 0
  | .getLens => CmdWord.pack 0x9 0 0 0 0
  | .setLens v => CmdWord.pack 0xA 0 0 0 v
  | .release => CmdWord.pack 0xB 0 0 0 0

/-- The `match` column of the command's row (R93). -/
def tableMatch : Instr → CmdWord
  | .begin => 0x0000000000000001
  | .readWord _ => 0x0000000000000002
  | .writeWord _ _ => 0x0000000000000003
  | .readAls => 0x0000000000000004
  | .getLux => 0x0000000000000005
  | .setIntEn _ => 0x0000000000000006
  | .armThreshold _ => 0x0000000000000007
  | .readClearFlags => 0x0000000000000008
  | .getLens => 0x0000000000000009
  | .setLens _ => 0x000000000000000A
  | .release => 0x000000000000000B

/-- The `mask` column of the command's row (R93). -/
def tableMask : Instr → CmdWord
  | .begin => 0xFFFFFFFFFFFFFFFF
  | .readWord _ => 0xFFFFFFFFFFFF00FF
  | .writeWord _ _ => 0xFFFFFFFF000000FF
  | .readAls => 0xFFFFFFFFFFFFFFFF
  | .getLux => 0xFFFFFFFFFFFFFFFF
  | .setIntEn _ => 0xFFFFFFFFFFFEFFFF
  | .armThreshold _ => 0xFFFFFFFF0000FFFF
  | .readClearFlags => 0xFFFFFFFFFFFFFFFF
  | .getLens => 0xFFFFFFFFFFFFFFFF
  | .setLens _ => 0x00000000FFFFFFFF
  | .release => 0xFFFFFFFFFFFFFFFF

/-- The command that the bits `w` of an instruction of `nbits` bits decode to. "Every command is exactly 64 bits" and
"The port is 64 bits wide, so the command word has no byte order" (R90, R91): bit 0 of `w` is bit 0 of the command
word, and every bit above `nbits` is 0. A longer word than 64 bits is no command. Log entry 13. -/
def decodeTableWord (nbits w : Nat) : Option Instr :=
  if w % 2 ^ nbits < 2 ^ 64 then decode (BitVec.ofNat 64 (w % 2 ^ nbits)) else none

end Sys2Proof
end

