-- ==== Sys2Proof/Config.lean ====
section
/-! DEFINITION. What the spec leaves open: the poll limit, the environment's answers and what the host drives.
Every constant here is without a value, so that a statement holds whatever it is. -/

namespace Sys2Proof

/-- The environment's answers to the primitives of one word transaction (spec 00_scope.md R14, 20_memory.md R66).
A transaction reads only the answers to the primitives it calls. Log entry 3. -/
structure BusAnswer where
  /-- `acks.addr` of the transaction's `TxWrite`. -/
  ackAddr : Bool
  /-- `acks.data[0]`: the register byte. -/
  ack0 : Bool
  /-- `acks.data[1]`: the low data byte of a write. -/
  ack1 : Bool
  /-- `acks.data[2]`: the high data byte of a write. -/
  ack2 : Bool
  /-- `TxRequest`: `some k` is `Ok(k)`, `none` is `Fail`. -/
  request : Option Nat
  /-- The answers of the first `TxAvailable` calls, in order. -/
  avail : List Nat
  /-- The answer of every `TxAvailable` call after those. -/
  availRest : Nat
  /-- The first `TxReadByte`. -/
  byte0 : Byte
  /-- The second `TxReadByte`. -/
  byte1 : Byte
deriving DecidableEq, Repr, Inhabited

/-- What the host drives on the block's input lines at one step (spec 10_state.md R32, 70_reset_and_hazards.md R281).
Log entry 2. -/
structure PortIn where
  /-- The reset input `rst`. -/
  rst : Bool
  /-- `cmd_valid`. -/
  cmdValid : Bool
  /-- `cmd_word`. -/
  cmdWord : CmdWord
deriving DecidableEq, Repr, Inhabited

/-- `POLL_LIMIT − 1`. The spec leaves `POLL_LIMIT` open, "a natural number ≥ 1" (spec 00_scope.md R7, D22). Log entry 4. -/
opaque Config.pollExtra : Nat

/-- `POLL_LIMIT`, the number of data-availability checks in one read (spec 00_scope.md R7, 40_transport.md R123). -/
def Config.pollLimit : Nat := Config.pollExtra + 1

/-- The environment's answers to the word transaction number `n`, where no script says them: a free value
(spec 20_memory.md R66). Log entry 3. -/
opaque Config.busAnswer : Nat → BusAnswer

/-- What the host drives at the step number `n`, where no script says it: a free value (spec 10_state.md R33,
70_reset_and_hazards.md R281). Log entry 2. -/
opaque Config.hostInput : Nat → PortIn

end Sys2Proof
end

