-- ==== Sys2Proof/Machine/State.lean ====
section
/-! DEFINITION. The state of the machine as plain data, its reset value, and the reasons a step can stop. -/

namespace Sys2Proof.Machine

/-- The values of the register `STATE` (spec 10_state.md R22). "`STATE` holds no other value." -/
inductive InitState where
  | uninit
  | probing
  | configured
  | failed
deriving DecidableEq, Repr

/-- The values of the register `STATUS` (spec 10_state.md R26). "Code 5 is never written." -/
inductive Status where
  | ok
  | busError
  | identityMismatch
  | invalidArgument
  | illegalCommand
  | running
  | none
deriving DecidableEq, Repr

/-- The causes `ERR[3:0]` records (spec 10_state.md R30). -/
inductive Cause where
  | writeNack
  | addrPhase
  | readPhase
  | byteCount
  | notReady
  | idMismatch
deriving DecidableEq, Repr

/-- The causes for which a read transaction fails (spec 00_scope.md R12, 40_transport.md R122). -/
inductive ReadCause where
  | addrPhase
  | readPhase
  | byteCount
  | notReady
deriving DecidableEq, Repr

/-- What `MemRead(reg, 2)` returns (spec 00_scope.md R12). -/
inductive ReadOutcome where
  | ok (w : Word)
  | err (c : ReadCause)
deriving DecidableEq, Repr

/-- What `MemWrite(reg, 2, v)` returns: `Ok` or `Err(WRITE_NACK)` (spec 00_scope.md R13). -/
inductive WriteOutcome where
  | ok
  | nack
deriving DecidableEq, Repr

/-- One event of the bus trace, one per word transaction (spec 10_state.md R34, 40_transport.md R121). -/
inductive BusEvent where
  | read (reg : RegAddr) (o : ReadOutcome)
  | write (reg : RegAddr) (v : Word) (o : WriteOutcome)
deriving DecidableEq, Repr

/-- One call of a transport primitive, as the block makes it on its bus-transport port (spec 00_scope.md R14). -/
inductive TxCall where
  | txWrite (addr7 : BusAddr) (bytes : List Byte) (stop : Bool)
  | txRequest (addr7 : BusAddr) (n : Nat)
  | txAvailable
  | txReadByte
deriving DecidableEq, Repr

/-- The device register space as the successful writes left it: cells (byte address, byte), addresses strictly rising.
The word of register `r` has its low byte at `2r` and its high byte at `2r + 1`. Log entry 7. -/
abbrev Memory := List Host.Cell

/-- The machine's state. The first thirteen fields are the block's state in full (spec 10_state.md R21). The last six are
the model's own: two observations and the two input streams with their counters. -/
structure State where
  /-- `STATE` (R22). -/
  state : InitState
  /-- `LENS`, unsigned Q16.16 (R24). -/
  lens : Lens
  /-- `SLAVE_ADDR`, hardwired (R25). No operation writes it. Log entry 14. -/
  slaveAddr : BusAddr
  /-- `STATUS` (R26). -/
  status : Status
  /-- `RESULT` (R29). -/
  result : BitVec 64
  /-- `ERR` (R30). -/
  err : BitVec 16
  /-- `CUR`, the decoded command being executed (R28), `none` for an ILLEGAL word. Log entry 18. -/
  cur : Option Instr
  /-- `STEP`, the index of the next word transaction of `CUR` (R28). -/
  stepIx : BitVec 3
  /-- `CONF_W`, an ALS_CONF word read by the current command (R28). -/
  confW : Word
  /-- `COUNT`, an ALS count read by it (R28). -/
  count : Word
  /-- `WH_V`, the computed high threshold (R28). -/
  whV : Word
  /-- `WL_V`, the computed low threshold (R28). -/
  wlV : Word
  /-- `TRACE`, the bus events in the order they happened (R34). -/
  trace : List BusEvent
  /-- The calls made on the bus-transport port, in order: an observation. Log entry 8. -/
  wire : List TxCall
  /-- The words that the last successful writes put into the device register space. Log entry 7. -/
  written : Memory
  /-- What the host drives at the coming steps. Log entry 2. -/
  script : List PortIn
  /-- The number of steps taken, the index into the free host input. Log entry 2. -/
  tick : Nat
  /-- What the environment answers at the coming word transactions. Log entry 3. -/
  answers : List BusAnswer
  /-- The number of word transactions made, the index into the free bus answers. Log entry 3. -/
  draws : Nat
deriving DecidableEq, Repr

/-- The machine right after reset (spec 70_reset_and_hazards.md R280). The registers R280 leaves unspecified, `CUR` to
`WL_V`, hold the values of log entry 5. The model's own fields hold those of log entry 6. -/
def State.reset : State where
  state := .uninit
  lens := 0x00010000
  slaveAddr := 0x29
  status := .none
  result := 0
  err := 0
  cur := none
  stepIx := 0
  confW := 0
  count := 0
  whV := 0
  wlV := 0
  trace := []
  wire := []
  written := []
  script := []
  tick := 0
  answers := []
  draws := 0

/-- The block's output ports (spec 10_state.md R32). -/
structure Outputs where
  /-- `cmd_ready`. -/
  cmdReady : Bool
  /-- `status`, the code of `STATUS`. -/
  status : BitVec 3
  /-- `result`. -/
  result : BitVec 64
  /-- `err`. -/
  err : BitVec 16
  /-- `state`, the code of `STATE`. -/
  state : BitVec 2
deriving DecidableEq, Repr

/-- Why the model stops. The block itself has no trap: "Failures are results, not traps" (spec 60_exceptions.md R251). -/
inductive Fault where
  /-- `STEP` holds an index that the current command has no transaction for. Raised by the meaning of a command that makes
  transactions. The spec gives such a state no meaning and no reachable state is one. Safe. Log entry 11. -/
  | stepOutOfRange
deriving DecidableEq, Repr

/-- Why the model gives an instruction no meaning. -/
inductive Refusal where
  /-- An instruction without a meaning yet, by its mnemonic. Raised only by an arm of `exec`; no arm raises it now. Safe. -/
  | notModelled (mnemonic : String)
deriving DecidableEq, Repr

end Sys2Proof.Machine
end

