-- ==== Sys2Proof/Machine/Operands.lean ====
section
/-! DEFINITION. The device registers' names and fields, byte order, and the words the commands compute for them. -/

namespace Sys2Proof.Machine

/-! ## The register map (spec 10_state.md R40) -/

/-- ALS_CONF, the configuration register. -/
def Reg.alsConf : RegAddr := 0x00
/-- WH, the high interrupt threshold. -/
def Reg.wh : RegAddr := 0x01
/-- WL, the low interrupt threshold. -/
def Reg.wl : RegAddr := 0x02
/-- PSM, the power-saving configuration. -/
def Reg.psm : RegAddr := 0x03
/-- ALS, the raw ALS count. -/
def Reg.als : RegAddr := 0x04
/-- WHITE, the raw white-channel count. -/
def Reg.white : RegAddr := 0x05
/-- IF, the interrupt flags. -/
def Reg.intFlags : RegAddr := 0x06
/-- ID, the device identity. -/
def Reg.ident : RegAddr := 0x07

/-! ## The fields of ALS_CONF (spec 10_state.md R41) -/

/-- `SD`, bit 0. The source gives it no polarity (spec 91_not_in_source.md N6). -/
def AlsConf.sd (w : Word) : Bool := w.getLsbD 0
/-- `INT_EN`, bit 1. -/
def AlsConf.intEn (w : Word) : Bool := w.getLsbD 1
/-- `IT`, bits 9..6, the integration-time code (R41, 42_converter.md R181). -/
def AlsConf.it (w : Word) : BitVec 4 := w.extractLsb' 6 4
/-- `GAIN`, bit 10. -/
def AlsConf.gain (w : Word) : Bool := w.getLsbD 10
/-- `DG`, bit 11. -/
def AlsConf.dg (w : Word) : Bool := w.getLsbD 11
/-- `SENS`, bit 12. -/
def AlsConf.sens (w : Word) : Bool := w.getLsbD 12

/-- The mask of `INT_EN` (R41). -/
def AlsConf.intEnMask : Word := 0x0002

/-- The word BEGIN writes to ALS_CONF (R43). -/
def AlsConf.default : Word := 0x1000

/-- The word an interrupt-enable update writes back: "(w & ~0x0002) | (zext_16(en) << 1)" (spec 43_interrupt.md R211). -/
def AlsConf.withIntEn (en : BitVec 1) (w : Word) : Word :=
  (w &&& ~~~AlsConf.intEnMask) ||| (en.zeroExtend 16 <<< 1)

/-! ## Byte order (spec 20_memory.md R61) -/

/-- `v[7:0]`, the byte sent and received first. -/
def lowByte (v : Word) : Byte := v.extractLsb' 0 8
/-- `v[15:8]`, the byte sent and received second. -/
def highByte (v : Word) : Byte := v.extractLsb' 8 8
/-- "w = hi << 8 | lo". -/
def wordOfBytes (lo hi : Byte) : Word := (hi.zeroExtend 16 <<< 8) ||| lo.zeroExtend 16

/-! ## Constants of the block -/

/-- The identity constant (spec 00_scope.md R2, R7). -/
def idConst : Byte := 0x83
/-- Lens factor 1.0 (spec 10_state.md R24). -/
def lensOne : Lens := 0x00010000
/-- `SENTINEL` (spec 10_state.md R31). -/
def sentinel : BitVec 64 := 0xFFFFFFFFFFFFFFFF

end Sys2Proof.Machine
end

