-- ==== Sys2Proof/Machine/Flags.lean ====
section
/-! DEFINITION. The status codes, the layout of ERR, and the three comparators. The block has no condition-code flags
(spec 10_state.md R35). -/

namespace Sys2Proof.Machine

/-- The codes of `STATE` (spec 10_state.md R22). -/
def InitState.code : InitState → BitVec 2
  | .uninit => 0
  | .probing => 1
  | .configured => 2
  | .failed => 3

/-- The codes of `STATUS` (spec 10_state.md R26). -/
def Status.code : Status → BitVec 3
  | .ok => 0
  | .busError => 1
  | .identityMismatch => 2
  | .invalidArgument => 3
  | .illegalCommand => 4
  | .running => 6
  | .none => 7

/-- The codes of a cause in `ERR[3:0]` (spec 10_state.md R30). -/
def Cause.code : Cause → BitVec 4
  | .writeNack => 1
  | .addrPhase => 2
  | .readPhase => 3
  | .byteCount => 4
  | .notReady => 5
  | .idMismatch => 6

/-- A read's cause as a cause of `ERR`. -/
def ReadCause.cause : ReadCause → Cause
  | .addrPhase => .addrPhase
  | .readPhase => .readPhase
  | .byteCount => .byteCount
  | .notReady => .notReady

/-- `err(c, s, r) = zext_16(r) << 8 | s << 4 | c` (spec 60_exceptions.md R252, 41_device_state.md). -/
def errWord (c : Cause) (step : BitVec 4) (reg : RegAddr) : BitVec 16 :=
  (reg.zeroExtend 16 <<< 8) ||| (step.zeroExtend 16 <<< 4) ||| c.code.zeroExtend 16

/-- Comparator (a): the argument check `p > 0` (spec 43_interrupt.md R210). -/
def argumentOk (p : Int) : Bool := 0 < p

/-- Comparator (b): the window-width test `wh − wl < 1`, on exact rationals (spec 43_interrupt.md R210, R215). -/
def windowTooNarrow (wh wl : Rat) : Bool := wh - wl < 1

/-- Comparator (c): the flag test `IF[14] | IF[15]` (spec 43_interrupt.md R210, R230). -/
def flagSet (w : Word) : Bool := w.getLsbD 14 || w.getLsbD 15

/-- The identity test on the ID word's low byte (spec 41_device_state.md R152). -/
def idMatches (w : Word) : Bool := lowByte w = idConst

end Sys2Proof.Machine
end

