-- ==== Sys2Proof/Machine/Ops.lean ====
section
/-! DEFINITION. The shared operations: the device register space, the word transactions, ending a command, accepting
one, reset, and the input streams. -/

namespace Sys2Proof.Machine

/-! ## The device register space as written (log entry 7) -/

/-- Addresses strictly rising. An unlisted address holds no byte that a successful write put there, so no listed byte can
equal it: rising addresses are the whole canonical form. -/
abbrev Memory.wf (m : Memory) : Prop := m.Pairwise (fun a b => a.1 < b.1)

/-- The byte that a successful write last put at the byte address `a`; `none` where none did. -/
def Memory.readByte : Memory → Nat → Option Byte
  | [], _ => none
  | c :: m, a => if c.1 = a then some c.2 else Memory.readByte m a

/-- Put a byte at the byte address `a`, keeping the addresses rising. -/
def Memory.writeByte : Memory → Nat → Byte → Memory
  | [], a, b => [(a, b)]
  | c :: m, a, b =>
    if a < c.1 then (a, b) :: c :: m
    else if a = c.1 then (a, b) :: m
    else c :: Memory.writeByte m a b

/-- Put a word at the register `reg`: the whole word or nothing (spec 20_memory.md R68). -/
def Memory.writeWord (m : Memory) (reg : RegAddr) (v : Word) : Memory :=
  (m.writeByte (2 * reg.toNat) (lowByte v)).writeByte (2 * reg.toNat + 1) (highByte v)

/-- The word that a successful write last put at the register `reg`. -/
def Memory.readWord (m : Memory) (reg : RegAddr) : Option Word :=
  match m.readByte (2 * reg.toNat), m.readByte (2 * reg.toNat + 1) with
  | some lo, some hi => some (wordOfBytes lo hi)
  | _, _ => none

/-! ## The transport's answers -/

/-- The answer of the `TxAvailable` call number `i` of a read. -/
def availableAt (a : BusAnswer) (i : Nat) : Nat := a.avail.getD i a.availRest

/-- The bounded data-ready poll (spec 40_transport.md R122, R123) with `n` checks left, the next one being number `i`:
whether two bytes became available, and how many checks were made in all. -/
def pollReady (a : BusAnswer) : Nat → Nat → Bool × Nat
  | 0, i => (false, i)
  | n + 1, i => if 2 ≤ availableAt a i then (true, i + 1) else pollReady a n (i + 1)

/-! ## The word transactions (spec 40_transport.md R122, R124) -/

/-- `readWord(reg)`: its outcome, and the primitive calls it makes in order. -/
def readTransaction (limit : Nat) (slave : BusAddr) (reg : RegAddr) (a : BusAnswer) : ReadOutcome × List TxCall :=
  let addressing := TxCall.txWrite slave [reg] false
  let request := TxCall.txRequest slave 2
  if !(a.ackAddr && a.ack0) then (.err .addrPhase, [addressing])
  else
    match a.request with
    | none => (.err .readPhase, [addressing, request])
    | some k =>
      if k ≠ 2 then (.err .byteCount, [addressing, request])
      else
        let polled := pollReady a limit 0
        let checks := List.replicate polled.2 TxCall.txAvailable
        if polled.1 then
          (.ok (wordOfBytes a.byte0 a.byte1), [addressing, request] ++ checks ++ [.txReadByte, .txReadByte])
        else (.err .notReady, [addressing, request] ++ checks)

/-- `writeWord(reg, v)`: its outcome, and the primitive call it makes. The slave-address acknowledgement counts too (D21). -/
def writeTransaction (slave : BusAddr) (reg : RegAddr) (v : Word) (a : BusAnswer) : WriteOutcome × List TxCall :=
  (if a.ackAddr && a.ack0 && a.ack1 && a.ack2 then .ok else .nack,
    [.txWrite slave [reg, lowByte v, highByte v] true])

/-- The environment's answers to the coming word transaction. Log entry 3. -/
def State.answerNow (s : State) : BusAnswer := s.answers.headD (Config.busAnswer s.draws)

/-- A word transaction has ended: one trace event (spec 40_transport.md R121), its primitive calls, one answer used. -/
def State.record (s : State) (e : BusEvent) (calls : List TxCall) : State :=
  { s with
    trace := s.trace ++ [e]
    wire := s.wire ++ calls
    answers := s.answers.tail
    draws := s.draws + 1 }

/-- The outcome of `MemRead(reg, 2)` in this state (spec 00_scope.md R12). -/
def State.readOutcome (s : State) (reg : RegAddr) : ReadOutcome :=
  (readTransaction Config.pollLimit s.slaveAddr reg s.answerNow).1

/-- The state after `MemRead(reg, 2)`. The transaction writes no register of the block (spec 40_transport.md R122). -/
def State.afterRead (s : State) (reg : RegAddr) : State :=
  s.record (.read reg (s.readOutcome reg)) (readTransaction Config.pollLimit s.slaveAddr reg s.answerNow).2

/-- The outcome of `MemWrite(reg, 2, v)` in this state (spec 00_scope.md R13). -/
def State.writeOutcome (s : State) (reg : RegAddr) (v : Word) : WriteOutcome :=
  (writeTransaction s.slaveAddr reg v s.answerNow).1

/-- A write's outcome is noted in the device register space: the word where it succeeded, nothing where it did not. -/
def Memory.note (m : Memory) (reg : RegAddr) (v : Word) : WriteOutcome → Memory
  | .ok => m.writeWord reg v
  | .nack => m

/-- The state after `MemWrite(reg, 2, v)`. -/
def State.afterWrite (s : State) (reg : RegAddr) (v : Word) : State :=
  { s.record (.write reg v (s.writeOutcome reg v)) (writeTransaction s.slaveAddr reg v s.answerNow).2 with
    written := s.written.note reg v (s.writeOutcome reg v) }

/-! ## Ending a command (spec 00_scope.md R15) -/

/-- `finish(status, result, err)`. -/
def State.finish (s : State) (status : Status) (result : BitVec 64) (err : BitVec 16) : State :=
  { s with status := status, result := result, err := err }

/-- `fail(status, err)`, the one way a failure is reported: no trap is taken (spec 60_exceptions.md R251, R257). -/
def State.fail (s : State) (status : Status) (err : BitVec 16) : State := s.finish status sentinel err

/-- `raise BusError(cause, step, reg)` (spec 00_scope.md R15, 60_exceptions.md R252). -/
def State.raiseBusError (s : State) (c : Cause) (step : BitVec 4) (reg : RegAddr) : State :=
  s.fail .busError (errWord c step reg)

/-- An ILLEGAL command completes with `fail(ILLEGAL_COMMAND, 0)` and no transaction (spec 30_encoding.md R95). -/
def State.failIllegal (s : State) : State := s.fail .illegalCommand 0

/-- The next word transaction of the command has the index `k`. -/
def State.goto (s : State) (k : BitVec 3) : State := { s with stepIx := k }

/-! ## The host ports (spec 10_state.md R27, R32, R33) -/

/-- "The block is busy exactly when STATUS = RUNNING" (R27). -/
def State.busy (s : State) : Bool := s.status = .running

/-- The output ports (R32). -/
def State.outputs (s : State) : Outputs where
  cmdReady := !s.busy
  status := s.status.code
  result := s.result
  err := s.err
  state := s.state.code

/-- What the host drives on the input lines at the coming step. Log entry 2. -/
def State.portNow (s : State) : PortIn := s.script.headD (Config.hostInput s.tick)

/-- The step's inputs are used up. -/
def State.advance (s : State) : State := { s with script := s.script.tail, tick := s.tick + 1 }

/-- Command acceptance (R33). -/
def State.accept (s : State) (w : CmdWord) : State :=
  { s with
    cur := decode w
    stepIx := 0
    status := .running
    state := if decode w = some .begin then .probing else s.state }

/-- The reset input puts every item of R280 in its reset value (spec 70_reset_and_hazards.md R281). The sensor keeps what
was written to it (R280, R282), and the inputs still to come are not the block's. -/
def State.resetBlock (s : State) : State :=
  { State.reset with
    written := s.written
    script := s.script
    tick := s.tick
    answers := s.answers
    draws := s.draws }

/-- The lines at a step at which the host drives nothing. -/
def quietPort : PortIn := { rst := false, cmdValid := false, cmdWord := 0 }

end Sys2Proof.Machine
end

