-- ==== Sys2Proof/Machine/Transport.lean ====
section
/-! DEFINITION. The commands that expose the word transactions: READ_WORD and WRITE_WORD (spec 40_transport.md).
The meaning of a command is one micro-step of it, the one that `STEP` selects (spec 00_scope.md R6, log entry 1). -/

namespace Sys2Proof.Machine

/-- One read at step 0 whose word gives the result: the shape of READ_WORD, READ_ALS and READ_CLEAR_FLAGS. -/
def readThenFinish (reg : RegAddr) (value : Word → BitVec 64) (s : State) : State :=
  match s.readOutcome reg with
  | .err c => (s.afterRead reg).raiseBusError c.cause 0 reg
  | .ok w => (s.afterRead reg).finish .ok (value w) 0

/-- WRITE_WORD's only micro-step. -/
def writeThenFinish (reg : RegAddr) (v : Word) (s : State) : State :=
  match s.writeOutcome reg v with
  | .nack => (s.afterWrite reg v).raiseBusError .writeNack 0 reg
  | .ok => (s.afterWrite reg v).finish .ok 0 0

/-- READ_WORD (spec 40_transport.md R126). -/
def execReadWord (reg : RegAddr) (s : State) : Host.Outcome State Fault Refusal :=
  match s.stepIx.toNat with
  | 0 => .next (readThenFinish reg (fun w => w.zeroExtend 64) s)
  | _ => .fault .stepOutOfRange

/-- WRITE_WORD (spec 40_transport.md R127). -/
def execWriteWord (reg : RegAddr) (v : Word) (s : State) : Host.Outcome State Fault Refusal :=
  match s.stepIx.toNat with
  | 0 => .next (writeThenFinish reg v s)
  | _ => .fault .stepOutOfRange

end Sys2Proof.Machine
end

