-- ==== Sys2Proof/Machine/Converter.lean ====
section
/-! DEFINITION. The photometric converter: counts to lux, READ_ALS and GET_LUX (spec 42_converter.md). -/

namespace Sys2Proof.Machine

/-! ## The conversion function -/

/-- `idx(it)`, the index mapping (R182). -/
def resolutionIndex (it : BitVec 4) : Nat :=
  if it ≤ 3 then it.toNat + 2 else if it &&& 0xC = 0xC then 0 else 1

/-- `RES`, the resolutions in LUT units of 1/2500 lux (R183). -/
def resolutionTable : List Nat := [32, 16, 8, 4, 2, 1]

/-- `RES[idx(it)]`. -/
def resolution (it : BitVec 4) : Nat := resolutionTable.getD (resolutionIndex it) 0

/-- `DGF`, the factor of the DG bit: "If the DG (double-gain) bit is clear, multiply lux by 2.0" (R184). -/
def dgFactor (dg : Bool) : Nat := if dg then 1 else 2

/-- `GF = [2, 16, 1, 8][gain << 1 | sens]` (R185). -/
def gainFactor (gain sens : Bool) : Nat := [2, 16, 1, 8].getD (2 * gain.toNat + sens.toNat) 0

/-- `U`, the count product in LUT units, exact (R186). -/
def countProduct (conf count : Word) : Nat :=
  count.toNat * resolution (AlsConf.it conf) * dgFactor (AlsConf.dg conf)
    * gainFactor (AlsConf.gain conf) (AlsConf.sens conf)

/-- `convert(conf, count, lens) = P = U * LENS`, which fits in 58 bits (R180, R187). -/
def convert (conf count : Word) (lens : Lens) : BitVec 58 :=
  BitVec.ofNat 58 (countProduct conf count * lens.toNat)

/-! ## Commands -/

/-- READ_ALS (R190). -/
def execReadAls (s : State) : Host.Outcome State Fault Refusal :=
  match s.stepIx.toNat with
  | 0 => .next (readThenFinish Reg.als (fun w => w.zeroExtend 64) s)
  | _ => .fault .stepOutOfRange

/-- GET_LUX, step 0: ALS_CONF. -/
def getLuxConf (s : State) : State :=
  match s.readOutcome Reg.alsConf with
  | .err c => (s.afterRead Reg.alsConf).raiseBusError c.cause 0 Reg.alsConf
  | .ok w => { (s.afterRead Reg.alsConf).goto 1 with confW := w }

/-- GET_LUX, step 1: the ALS count, then the conversion. -/
def getLuxCount (s : State) : State :=
  match s.readOutcome Reg.als with
  | .err c => (s.afterRead Reg.als).raiseBusError c.cause 1 Reg.als
  | .ok w =>
    { s.afterRead Reg.als with count := w }.finish .ok ((convert s.confW w s.lens).zeroExtend 64) 0

/-- GET_LUX (R192). -/
def execGetLux (s : State) : Host.Outcome State Fault Refusal :=
  match s.stepIx.toNat with
  | 0 => .next (getLuxConf s)
  | 1 => .next (getLuxCount s)
  | _ => .fault .stepOutOfRange

end Sys2Proof.Machine
end

