-- ==== Sys2Proof/Machine/Interrupt.lean ====
section
/-! DEFINITION. The interrupt threshold programmer and comparator: SET_INT_EN, ARM_THRESHOLD and READ_CLEAR_FLAGS
(spec 43_interrupt.md). -/

namespace Sys2Proof.Machine

/-! ## The interrupt-enable RMW (R211), two micro-steps -/

/-- The read half at step `k`: what to do when it fails, and where the word read goes. CONF_W holds it between the two
transactions. Log entry 9. -/
def rmwRead (onFail : ReadCause → State → State) (k : BitVec 3) (s : State) : State :=
  match s.readOutcome Reg.alsConf with
  | .err c => onFail c (s.afterRead Reg.alsConf)
  | .ok w => { (s.afterRead Reg.alsConf).goto (k + 1) with confW := w }

/-- The write half: ALS_CONF with only bit 1 changed, then what to do on either outcome. -/
def rmwWrite (en : BitVec 1) (andThen : WriteOutcome → State → State) (s : State) : State :=
  andThen (s.writeOutcome Reg.alsConf (AlsConf.withIntEn en s.confW))
    (s.afterWrite Reg.alsConf (AlsConf.withIntEn en s.confW))

/-- The last write of SET_INT_EN. -/
def setIntEnDone : WriteOutcome → State → State
  | .nack, t => t.raiseBusError .writeNack 1 Reg.alsConf
  | .ok, t => t.finish .ok 0 0

/-- SET_INT_EN (R212). -/
def execSetIntEn (en : BitVec 1) (s : State) : Host.Outcome State Fault Refusal :=
  match s.stepIx.toNat with
  | 0 => .next (rmwRead (fun c t => t.raiseBusError c.cause 0 Reg.alsConf) 0 s)
  | 1 => .next (rmwWrite en setIntEnDone s)
  | _ => .fault .stepOutOfRange

/-! ## The threshold window (R215) -/

/-- `window(count, p)`: exact rational arithmetic, the increment, the clamps, then `floor` (R215, D15). -/
def window (count : Word) (p : Int) : Word × Word :=
  let wh : Rat := (count.toNat : Rat) * (100 + p) / 100
  let wl : Rat := (count.toNat : Rat) * (100 - p) / 100
  let wh' : Rat := if windowTooNarrow wh wl then wh + 1 else wh
  (BitVec.ofInt 16 (min wh' 65535).floor, BitVec.ofInt 16 (max wl 0).floor)

/-! ## Arming (R220) -/

/-- Step 0: the current raw ALS count, and the window computed from it. -/
def armReadCount (p : Int) (s : State) : State :=
  match s.readOutcome Reg.als with
  | .err c => (s.afterRead Reg.als).raiseBusError c.cause 0 Reg.als
  | .ok w =>
    { (s.afterRead Reg.als).goto 1 with
      count := w
      whV := (window w p).1
      wlV := (window w p).2 }

/-- A write of the sequence: a failure short-circuits, a success goes on with the next transaction. -/
def armGoOn (k : BitVec 3) (reg : RegAddr) : WriteOutcome → State → State
  | .nack, t => t.raiseBusError .writeNack (k.zeroExtend 4) reg
  | .ok, t => t.goto (k + 1)

/-- The enable write at step 6. -/
def armDone : WriteOutcome → State → State
  | .nack, t => t.raiseBusError .writeNack 6 Reg.alsConf
  | .ok, t => t.finish .ok (((t.whV.zeroExtend 32 <<< 16) ||| t.wlV.zeroExtend 32).zeroExtend 64) 0

/-- ARM_THRESHOLD (R220). The argument check comes before any transaction (D17). -/
def execArmThreshold (p : Int) (s : State) : Host.Outcome State Fault Refusal :=
  match s.stepIx.toNat with
  | 0 => .next (if argumentOk p then armReadCount p s else s.fail .invalidArgument 0)
  | 1 => .next (rmwRead (fun c t => t.raiseBusError c.cause 1 Reg.alsConf) 1 s)
  | 2 => .next (rmwWrite 0 (armGoOn 2 Reg.alsConf) s)
  | 3 => .next (armGoOn 3 Reg.wh (s.writeOutcome Reg.wh s.whV) (s.afterWrite Reg.wh s.whV))
  | 4 => .next (armGoOn 4 Reg.wl (s.writeOutcome Reg.wl s.wlV) (s.afterWrite Reg.wl s.wlV))
  | 5 => .next (rmwRead (fun c t => t.raiseBusError c.cause 5 Reg.alsConf) 5 s)
  | 6 => .next (rmwWrite 1 armDone s)
  | _ => .fault .stepOutOfRange

/-! ## Flags (R230) -/

/-- READ_CLEAR_FLAGS (R230). The block sends no clear (20_memory.md R67). -/
def execReadClearFlags (s : State) : Host.Outcome State Fault Refusal :=
  match s.stepIx.toNat with
  | 0 => .next (readThenFinish Reg.intFlags (fun w => if flagSet w then 1 else 0) s)
  | _ => .fault .stepOutOfRange

end Sys2Proof.Machine
end

