-- ==== Sys2Proof/Machine/Device.lean ====
section
/-! DEFINITION. Device state and initialization: BEGIN, RELEASE, GET_LENS and SET_LENS (spec 41_device_state.md). -/

namespace Sys2Proof.Machine

/-- A write of BEGIN: its outcome is ignored and the next transaction is the one after `k` (R151, R153). -/
def beginWrite (k : BitVec 3) (reg : RegAddr) (v : Word) (s : State) : State := (s.afterWrite reg v).goto (k + 1)

/-- BEGIN, step 2: the identity probe (R152). -/
def beginProbe (s : State) : State :=
  match s.readOutcome Reg.ident with
  | .err c => { s.afterRead Reg.ident with state := .failed }.raiseBusError c.cause 2 Reg.ident
  | .ok w =>
    if idMatches w then (s.afterRead Reg.ident).goto 3
    else { s.afterRead Reg.ident with state := .failed }.fail .identityMismatch (errWord .idMismatch 2 Reg.ident)

/-- BEGIN, step 6 and the end: PSM, then LENS 1.0 and CONFIGURED (R152). -/
def beginDone (s : State) : State :=
  { s.afterWrite Reg.psm 0x0000 with lens := lensOne, state := .configured }.finish .ok 0 0

/-- BEGIN (R152). `STATE` became `PROBING` at acceptance (10_state.md R33). -/
def execBegin (s : State) : Host.Outcome State Fault Refusal :=
  match s.stepIx.toNat with
  | 0 => .next (beginWrite 0 Reg.wl 0x0000 s)
  | 1 => .next (beginWrite 1 Reg.wl 0x0000 s)
  | 2 => .next (beginProbe s)
  | 3 => .next (beginWrite 3 Reg.alsConf AlsConf.default s)
  | 4 => .next (beginWrite 4 Reg.wh 0xFFFF s)
  | 5 => .next (beginWrite 5 Reg.wl 0x0000 s)
  | 6 => .next (beginDone s)
  | _ => .fault .stepOutOfRange

/-- RELEASE's end: UNINIT, LENS 1.0, always OK (R156). -/
def releaseDone (s : State) : State := { s with state := .uninit, lens := lensOne }.finish .ok 0 0

/-- RELEASE (R156): the interrupt disable is best-effort, so either failure ends the command with OK. -/
def execRelease (s : State) : Host.Outcome State Fault Refusal :=
  match s.stepIx.toNat with
  | 0 => .next (rmwRead (fun _ t => releaseDone t) 0 s)
  | 1 => .next (rmwWrite 0 (fun _ t => releaseDone t) s)
  | _ => .fault .stepOutOfRange

/-- GET_LENS (R160): no transaction, one completion step. -/
def execGetLens (s : State) : Host.Outcome State Fault Refusal :=
  .next (s.finish .ok (s.lens.zeroExtend 64) 0)

/-- SET_LENS (R162): no transaction, one completion step. -/
def execSetLens (v : Lens) (s : State) : Host.Outcome State Fault Refusal :=
  .next ({ s with lens := v }.finish .ok 0 0)

end Sys2Proof.Machine
end

