-- ==== Sys2Proof/Machine/Dispatch.lean ====
section
/-! DEFINITION. One arm per command. -/

namespace Sys2Proof.Machine

/-- One micro-step of the command `i`: the one that `STEP` selects (spec 00_scope.md R6, log entry 1). -/
def exec (i : Instr) (s : State) : Host.Outcome State Fault Refusal :=
  match i with
  | .begin => Sys2Proof.Machine.execBegin s
  | .readWord reg => Sys2Proof.Machine.execReadWord reg s
  | .writeWord reg v => Sys2Proof.Machine.execWriteWord reg v s
  | .readAls => Sys2Proof.Machine.execReadAls s
  | .getLux => Sys2Proof.Machine.execGetLux s
  | .setIntEn en => Sys2Proof.Machine.execSetIntEn en s
  | .armThreshold p => Sys2Proof.Machine.execArmThreshold p s
  | .readClearFlags => Sys2Proof.Machine.execReadClearFlags s
  | .getLens => Sys2Proof.Machine.execGetLens s
  | .setLens v => Sys2Proof.Machine.execSetLens v s
  | .release => Sys2Proof.Machine.execRelease s

end Sys2Proof.Machine
end

