-- ==== Sys2Proof/Machine/Step.lean ====
section
/-! DEFINITION. One step of the machine, and placing a command where the next step runs it. -/

namespace Sys2Proof.Machine

/-- The micro-step of a busy block: the command in `CUR`, or the completion of an ILLEGAL one (spec 30_encoding.md R95). -/
def runCur (s : State) : Host.Outcome State Fault Refusal :=
  match s.cur with
  | some i => exec i s
  | none => .next s.failIllegal

/-- The inputs of the step are used up, whatever the step did. -/
def thenAdvance : Host.Outcome State Fault Refusal → Host.Outcome State Fault Refusal
  | .next t => .next t.advance
  | .fault r => .fault r
  | .refused r => .refused r

/-- One step: a reset where `rst` is 1 (spec 70_reset_and_hazards.md R281, log entry 17); else one micro-step where the
block is busy; else the acceptance of a command where `cmd_valid` is 1 (spec 10_state.md R33); else nothing. -/
def step (s : State) : Host.Outcome State Fault Refusal :=
  if s.portNow.rst then .next s.resetBlock.advance
  else if s.busy then thenAdvance (runCur s)
  else if s.portNow.cmdValid then .next (s.accept s.portNow.cmdWord).advance
  else .next s.advance

/-- The state in which the command word `w` has just been accepted and `rst` is 0 at the next step, so that the next step
is the first micro-step of the command. The machine fetches nothing: "Commands come only from the host port" (spec
20_memory.md R74). Log entry 12. -/
def State.withFetchWord (s : State) (nbits w : Nat) : State :=
  { s.accept (BitVec.ofNat 64 (w % 2 ^ nbits)) with script := quietPort :: s.script.tail }

end Sys2Proof.Machine
end

