-- ==== Sys2Proof/Machine/Assembler.lean ====
section
/-! DEFINITION. The assembler syntax and the pseudo-commands (spec 30_encoding.md R97, R98). What those rules leave open
(separators, letter case, how a disassembler prints a number) is log entry 15. -/

namespace Sys2Proof.Machine

/-- The pseudo-commands (R98). -/
inductive Pseudo where
  | readConf
  | writeConf (v : Word)
  | writeWh (v : Word)
  | writeWl (v : Word)
  | writePsm (v : Word)
  | readWhite
  | readIf
  | readId
  | disableInt
  | enableInt
deriving DecidableEq, Repr

/-- "Each expands to exactly one command" (R98). -/
def expandPseudo : Pseudo → Instr
  | .readConf => .readWord 0x00
  | .writeConf v => .writeWord 0x00 v
  | .writeWh v => .writeWord 0x01 v
  | .writeWl v => .writeWord 0x02 v
  | .writePsm v => .writeWord 0x03 v
  | .readWhite => .readWord 0x05
  | .readIf => .readWord 0x06
  | .readId => .readWord 0x07
  | .disableInt => .setIntEn 0
  | .enableInt => .setIntEn 1

/-! ## Reading a line -/

/-- A finished token, kept only where it is not empty. -/
def flushToken (cur : List Char) : List (List Char) := if cur = [] then [] else [cur.reverse]

/-- The tokens of a line: words between spaces, and each comma by itself. `cur` is the token being read, reversed. -/
def lexFrom : List Char → List Char → List (List Char)
  | cur, [] => flushToken cur
  | cur, c :: cs =>
    if c = ' ' then flushToken cur ++ lexFrom [] cs
    else if c = ',' then flushToken cur ++ [','] :: lexFrom [] cs
    else lexFrom (c :: cur) cs

/-- The sixteen digits in the order of their values, as the disassembler prints them. The decimal digits are the first ten. -/
def digitChars : List Char := "0123456789ABCDEF".toList

/-- The same digits with the letters in the other case, which a line may use too (log entry 15). -/
def otherDigitChars : List Char := "0123456789abcdef".toList

/-- A digit's value is its place among the digits. -/
def digitValue (c : Char) : Option Nat := (digitChars.idxOf? c).or (otherDigitChars.idxOf? c)

/-- The digits of a number in a base, added to what was read before them. -/
def parseDigits (base : Nat) : Nat → List Char → Option Nat
  | acc, [] => some acc
  | acc, c :: cs =>
    match digitValue c with
    | some d => if d < base then parseDigits base (acc * base + d) cs else none
    | none => none

/-- "Numbers are decimal, or hex with `0x`" (R97). -/
def parseNumber : List Char → Option Nat
  | [] => none
  | '0' :: 'x' :: d :: ds => parseDigits 16 0 (d :: ds)
  | d :: ds => parseDigits 10 0 (d :: ds)

/-- An unsigned field of `n` bits: "A value that does not fit its field is an assembly error. It is not truncated" (R97). -/
def parseField (n : Nat) (cs : List Char) : Option (BitVec n) :=
  match parseNumber cs with
  | some v => if v < 2 ^ n then some (BitVec.ofNat n v) else none
  | none => none

/-- A signed 16-bit value: "A negative `s16` is written with `-`" (R97). -/
def parseSigned : List Char → Option Int
  | '-' :: cs =>
    match parseNumber cs with
    | some v => if v ≤ 32768 then some (-(v : Int)) else none
    | none => none
  | cs =>
    match parseNumber cs with
    | some v => if v ≤ 32767 then some (v : Int) else none
    | none => none

/-- "The register names stand for `0x00`–`0x07` in the order of 10_state.md rule R40" (R97). -/
def registerNames : List (String × RegAddr) :=
  [("ALS_CONF", 0x00), ("WH", 0x01), ("WL", 0x02), ("PSM", 0x03), ("ALS", 0x04), ("WHITE", 0x05), ("IF", 0x06),
    ("ID", 0x07)]

/-- A register operand: a name or a u8. -/
def parseRegister (cs : List Char) : Option RegAddr :=
  match registerNames.find? (fun r => r.1.toList = cs) with
  | some r => some r.2
  | none => parseField 8 cs

/-- The enable operand, `"0"` or `"1"`. -/
def parseEnable (cs : List Char) : Option (BitVec 1) :=
  if cs = ['0'] then some 0 else if cs = ['1'] then some 1 else none

/-- The commands and pseudo-commands without operands. -/
def plainMnemonics : List (String × Instr) :=
  [("BEGIN", .begin), ("READ_ALS", .readAls), ("GET_LUX", .getLux), ("READ_CLEAR_FLAGS", .readClearFlags),
    ("GET_LENS", .getLens), ("RELEASE", .release),
    ("READ_CONF", expandPseudo .readConf), ("READ_WHITE", expandPseudo .readWhite),
    ("READ_IF", expandPseudo .readIf), ("READ_ID", expandPseudo .readId),
    ("DISABLE_INT", expandPseudo .disableInt), ("ENABLE_INT", expandPseudo .enableInt)]

/-- A line with one operand. -/
def parseOneOperand (m a : List Char) : Option Instr :=
  if m = "READ_WORD".toList then (parseRegister a).map .readWord
  else if m = "SET_INT_EN".toList then (parseEnable a).map .setIntEn
  else if m = "ARM_THRESHOLD".toList then (parseSigned a).map .armThreshold
  else if m = "SET_LENS".toList then (parseField 32 a).map .setLens
  else if m = "WRITE_CONF".toList then (parseField 16 a).map fun v => expandPseudo (.writeConf v)
  else if m = "WRITE_WH".toList then (parseField 16 a).map fun v => expandPseudo (.writeWh v)
  else if m = "WRITE_WL".toList then (parseField 16 a).map fun v => expandPseudo (.writeWl v)
  else if m = "WRITE_PSM".toList then (parseField 16 a).map fun v => expandPseudo (.writePsm v)
  else none

/-- A line with two operands. -/
def parseTwoOperands (m a b : List Char) : Option Instr :=
  if m = "WRITE_WORD".toList then
    match parseRegister a, parseField 16 b with
    | some reg, some v => some (.writeWord reg v)
    | _, _ => none
  else none

/-- The command of a line's tokens (R97, R98). -/
def parseTokens : List (List Char) → Option Instr
  | [m] => (plainMnemonics.find? (fun r => r.1.toList = m)).map (·.2)
  | [m, a] => parseOneOperand m a
  | [m, a, [','], b] => parseTwoOperands m a b
  | _ => none

/-- The command a line of assembler text stands for; `none` is an assembly error. -/
def assembleLine (line : List Char) : Option Instr := parseTokens (lexFrom [] line)

/-! ## Writing a line -/

/-- One hex digit. -/
def hexDigit (n : Nat) : Char := digitChars.getD n '0'

/-- The last `k` hex digits of a number. -/
def hexDigits : Nat → Nat → List Char
  | 0, _ => []
  | k + 1, v => hexDigits k (v / 16) ++ [hexDigit (v % 16)]

/-- A number as `0x` and `k` digits. -/
def hexNumber (k v : Nat) : List Char := '0' :: 'x' :: hexDigits k v

/-- The base form of a command, as a disassembler prints it (R97, R98). -/
def disassemble : Instr → List Char
  | .begin => "BEGIN".toList
  | .readWord reg => "READ_WORD ".toList ++ hexNumber 2 reg.toNat
  | .writeWord reg v => "WRITE_WORD ".toList ++ hexNumber 2 reg.toNat ++ ", ".toList ++ hexNumber 4 v.toNat
  | .readAls => "READ_ALS".toList
  | .getLux => "GET_LUX".toList
  | .setIntEn en => "SET_INT_EN ".toList ++ [if en = 1 then '1' else '0']
  | .armThreshold p =>
    "ARM_THRESHOLD ".toList ++ (if p < 0 then ['-'] else []) ++ hexNumber 4 p.natAbs
  | .readClearFlags => "READ_CLEAR_FLAGS".toList
  | .getLens => "GET_LENS".toList
  | .setLens v => "SET_LENS ".toList ++ hexNumber 8 v.toNat
  | .release => "RELEASE".toList

end Sys2Proof.Machine
end

