-- ==== Sys2Proof/Machine/Pseudocode.lean ====
section
/-! DEFINITION. Each command as the spec's pseudocode writes it, from acceptance to `finish` in one go. The machine does not
use this: it runs one micro-step at a time. It is what the micro-steps are to be compared with. -/

namespace Sys2Proof.Machine

/-- `set_int_en_rmw(en, s)` (spec 43_interrupt.md R211): the state, and the failure's cause and step if it failed. -/
def pseudoRmw (en : BitVec 1) (k : BitVec 4) (s : State) : State × Option (Cause × BitVec 4) :=
  match s.readOutcome Reg.alsConf with
  | .err c => (s.afterRead Reg.alsConf, some (c.cause, k))
  | .ok w =>
    let t := s.afterRead Reg.alsConf
    let w' := AlsConf.withIntEn en w
    match t.writeOutcome Reg.alsConf w' with
    | .nack => (t.afterWrite Reg.alsConf w', some (.writeNack, k + 1))
    | .ok => (t.afterWrite Reg.alsConf w', none)

/-- BEGIN (spec 41_device_state.md R152). -/
def pseudoBegin (s : State) : State :=
  let s := s.afterWrite Reg.wl 0x0000
  let s := s.afterWrite Reg.wl 0x0000
  let t := s.afterRead Reg.ident
  match s.readOutcome Reg.ident with
  | .err c => { t with state := .failed }.raiseBusError c.cause 2 Reg.ident
  | .ok w =>
    if lowByte w ≠ 0x83 then { t with state := .failed }.fail .identityMismatch 0x0726
    else
      let t := t.afterWrite Reg.alsConf 0x1000
      let t := t.afterWrite Reg.wh 0xFFFF
      let t := t.afterWrite Reg.wl 0x0000
      let t := t.afterWrite Reg.psm 0x0000
      { t with lens := 0x00010000, state := .configured }.finish .ok 0 0

/-- GET_LUX (spec 42_converter.md R192). -/
def pseudoGetLux (s : State) : State :=
  let t := s.afterRead Reg.alsConf
  match s.readOutcome Reg.alsConf with
  | .err c => t.raiseBusError c.cause 0 Reg.alsConf
  | .ok conf =>
    let u := t.afterRead Reg.als
    match t.readOutcome Reg.als with
    | .err c => u.raiseBusError c.cause 1 Reg.als
    | .ok count => u.finish .ok ((convert conf count u.lens).zeroExtend 64) 0

/-- SET_INT_EN (spec 43_interrupt.md R212). -/
def pseudoSetIntEn (en : BitVec 1) (s : State) : State :=
  match pseudoRmw en 0 s with
  | (t, some (c, k)) => t.raiseBusError c k Reg.alsConf
  | (t, none) => t.finish .ok 0 0

/-- ARM_THRESHOLD from its first write of a threshold on (spec 43_interrupt.md R220, steps 3 to 6). -/
def pseudoArmWrites (whV wlV : Word) (s : State) : State :=
  let t := s.afterWrite Reg.wh whV
  match s.writeOutcome Reg.wh whV with
  | .nack => t.raiseBusError .writeNack 3 Reg.wh
  | .ok =>
    let u := t.afterWrite Reg.wl wlV
    match t.writeOutcome Reg.wl wlV with
    | .nack => u.raiseBusError .writeNack 4 Reg.wl
    | .ok =>
      match pseudoRmw 1 5 u with
      | (x, some (c, k)) => x.raiseBusError c k Reg.alsConf
      | (x, none) => x.finish .ok (((whV.zeroExtend 32 <<< 16) ||| wlV.zeroExtend 32).zeroExtend 64) 0

/-- ARM_THRESHOLD (spec 43_interrupt.md R220). -/
def pseudoArm (p : Int) (s : State) : State :=
  if p ≤ 0 then s.fail .invalidArgument 0
  else
    let t := s.afterRead Reg.als
    match s.readOutcome Reg.als with
    | .err c => t.raiseBusError c.cause 0 Reg.als
    | .ok count =>
      match pseudoRmw 0 1 t with
      | (u, some (c, k)) => u.raiseBusError c k Reg.alsConf
      | (u, none) => pseudoArmWrites (window count p).1 (window count p).2 u

/-- RELEASE (spec 41_device_state.md R156). -/
def pseudoRelease (s : State) : State :=
  { (pseudoRmw 0 0 s).1 with state := .uninit, lens := 0x00010000 }.finish .ok 0 0

/-- READ_WORD (spec 40_transport.md R126), and READ_ALS (42_converter.md R190) with `reg = 0x04`. -/
def pseudoReadWord (reg : RegAddr) (s : State) : State :=
  match s.readOutcome reg with
  | .err c => (s.afterRead reg).raiseBusError c.cause 0 reg
  | .ok w => (s.afterRead reg).finish .ok (w.zeroExtend 64) 0

/-- WRITE_WORD (spec 40_transport.md R127). -/
def pseudoWriteWord (reg : RegAddr) (v : Word) (s : State) : State :=
  match s.writeOutcome reg v with
  | .nack => (s.afterWrite reg v).raiseBusError .writeNack 0 reg
  | .ok => (s.afterWrite reg v).finish .ok 0 0

/-- READ_CLEAR_FLAGS (spec 43_interrupt.md R230). -/
def pseudoReadClearFlags (s : State) : State :=
  match s.readOutcome Reg.intFlags with
  | .err c => (s.afterRead Reg.intFlags).raiseBusError c.cause 0 Reg.intFlags
  | .ok w => (s.afterRead Reg.intFlags).finish .ok (if w.getLsbD 14 || w.getLsbD 15 then 1 else 0) 0

/-- A command run to its end, from the state in which it has been accepted. -/
def pseudocode : Instr → State → State
  | .begin, s => pseudoBegin s
  | .readWord reg, s => pseudoReadWord reg s
  | .writeWord reg v, s => pseudoWriteWord reg v s
  | .readAls, s => pseudoReadWord Reg.als s
  | .getLux, s => pseudoGetLux s
  | .setIntEn en, s => pseudoSetIntEn en s
  | .armThreshold p, s => pseudoArm p s
  | .readClearFlags, s => pseudoReadClearFlags s
  | .getLens, s => s.finish .ok (s.lens.zeroExtend 64) 0
  | .setLens v, s => { s with lens := v }.finish .ok 0 0
  | .release, s => pseudoRelease s

end Sys2Proof.Machine
end

