-- ==== Sys2Proof/Safety.lean ====
section
/-! DEFINITION. The terms the claims use: what a safe state is, running a command to its end, and the named premises about
the sensor (spec 20_memory.md R66). -/

namespace Sys2Proof.Machine

/-! ## Running a command -/

/-- The number of word transactions a command makes where nothing fails (spec 70_reset_and_hazards.md R305). -/
def transactions : Instr → Nat
  | .begin => 7
  | .readWord _ => 1
  | .writeWord _ _ => 1
  | .readAls => 1
  | .getLux => 2
  | .setIntEn _ => 2
  | .armThreshold _ => 7
  | .readClearFlags => 1
  | .getLens => 0
  | .setLens _ => 0
  | .release => 2

/-- What the host drives at the step `k` steps from now. -/
def State.portAt (s : State) (k : Nat) : PortIn := (s.script.drop k).headD (Config.hostInput (s.tick + k))

/-- The reset input stays 0 at the next `n` steps. -/
abbrev State.noResetFor (s : State) (n : Nat) : Prop := ∀ k < n, (s.portAt k).rst = false

/-- The steps of a busy block until it is idle, at most `n` of them. -/
def untilIdle : Nat → State → Host.Outcome State Fault Refusal
  | 0, s => .next s
  | n + 1, s =>
    if s.busy then
      match step s with
      | .next t => untilIdle n t
      | .fault r => .fault r
      | .refused r => .refused r
    else .next s

/-- A state in which the command `i` has just been accepted (spec 10_state.md R33) and no reset comes in the at most
seven steps it takes. -/
abbrev State.hasAccepted (s : State) (i : Instr) : Prop :=
  s.status = .running ∧ s.cur = some i ∧ s.stepIx = 0 ∧ s.noResetFor 7

/-- The state without what the host cannot see: the sequencer registers, "not visible to the host" (spec 10_state.md R28),
and the input lines still to come. -/
def State.visible (s : State) : State :=
  { s with cur := none, stepIx := 0, confW := 0, count := 0, whV := 0, wlV := 0, script := [], tick := 0 }

/-- The events that a run added to the trace: `t`'s trace is `s`'s followed by `es`. -/
abbrev State.added (s t : State) (es : List BusEvent) : Prop := t.trace = s.trace ++ es

/-! ## Events -/

/-- The transaction succeeded. -/
def BusEvent.succeeded : BusEvent → Bool
  | .read _ (.ok _) => true
  | .read _ (.err _) => false
  | .write _ _ .ok => true
  | .write _ _ .nack => false

/-- The successful writes of a trace, in order. -/
def successfulWrites : List BusEvent → List (RegAddr × Word)
  | [] => []
  | .write r v .ok :: es => (r, v) :: successfulWrites es
  | .write _ _ .nack :: es => successfulWrites es
  | .read _ _ :: es => successfulWrites es

/-- A call that names a bus address names `a`. -/
def TxCall.addresses (a : BusAddr) : TxCall → Prop
  | .txWrite b _ _ => b = a
  | .txRequest b _ => b = a
  | .txAvailable => True
  | .txReadByte => True

/-! ## The invariant -/

/-- `PROBING` is "held only while a BEGIN is running" (spec 41_device_state.md R150). -/
def State.probingMeansBegin (s : State) : Prop :=
  s.state = .probing ↔ s.status = .running ∧ s.cur = some .begin

/-- While a command runs, it is well-formed and `STEP` is one of its transactions (0 where it makes none); once
ARM_THRESHOLD has computed its window, WH_V > WL_V (spec 43_interrupt.md R217). -/
def State.sequenced (s : State) : Prop :=
  s.status = .running → ∀ i, s.cur = some i →
    i.WellFormed ∧ s.stepIx.toNat < max 1 (transactions i) ∧
      ∀ p, i = .armThreshold p → s.stepIx ≠ 0 → s.wlV < s.whV

/-- What `STATUS` says about `RESULT`, `ERR` and `STATE` (spec 10_state.md R29 to R31, 60_exceptions.md R252). -/
def State.outcomeRecorded (s : State) : Prop :=
  match s.status with
  | .ok => s.result.msb = false ∧ s.err = 0
  | .busError =>
    s.result = sentinel ∧ ∃ c k reg, c ≠ Cause.idMismatch ∧ k ≤ (6 : BitVec 4) ∧ s.err = errWord c k reg
  | .identityMismatch => s.result = sentinel ∧ s.err = 0x0726 ∧ s.state = .failed
  | .invalidArgument => s.result = sentinel ∧ s.err = 0
  | .illegalCommand => s.result = sentinel ∧ s.err = 0
  | .running => (s.result.msb = true → s.result = sentinel) ∧ (s.err ≠ 0 → s.result = sentinel)
  | .none => s.result = 0 ∧ s.err = 0 ∧ s.state = .uninit ∧ s.lens = lensOne ∧ s.trace = []

/-- The invariant of the machine. -/
structure State.Inv (s : State) : Prop where
  /-- `SLAVE_ADDR` is hardwired (spec 10_state.md R25). -/
  slave : s.slaveAddr = 0x29
  /-- Every call names that address. -/
  addressed : ∀ c ∈ s.wire, c.addresses 0x29
  /-- The device register space keeps its canonical form. -/
  canonical : s.written.wf
  probing : s.probingMeansBegin
  sequence : s.sequenced
  outcome : s.outcomeRecorded

/-! ## The named premises about the sensor (spec 20_memory.md R66; log entry 16) -/

/-- `DeviceEcho` on the events that follow a state in which the registers are known to hold what `m` says: every transaction
succeeds, and a read of `0x00`–`0x03` returns the word most recently written there by a successful write. A register that
none has written holds one unknown word, which its first read makes known: "Under `DeviceEcho`, reads of `0x00`–`0x03` are
idempotent" (spec 20_memory.md R67). -/
def DeviceEcho : Memory → List BusEvent → Prop
  | _, [] => True
  | m, .write r v .ok :: es => DeviceEcho (m.writeWord r v) es
  | _, .write _ _ .nack :: _ => False
  | m, .read r (.ok w) :: es =>
    (r ≤ 3 → ∀ v, m.readWord r = some v → w = v) ∧ DeviceEcho (if r ≤ 3 then m.writeWord r w else m) es
  | _, .read _ (.err _) :: _ => False

/-- `IfClearOnRead` on a list of events: after a successful read of IF, a later one finds bits 14 and 15 at 0 unless a new
crossing came between. `crossing k` says that one came after the event number `k` and before the next. -/
def IfClearOnRead (crossing : Nat → Prop) (es : List BusEvent) : Prop :=
  ∀ i j v w, i < j → es[i]? = some (.read Reg.intFlags (.ok v)) → es[j]? = some (.read Reg.intFlags (.ok w)) →
    (∀ k, i ≤ k → k < j → ¬ crossing k) → w.getLsbD 14 = false ∧ w.getLsbD 15 = false

end Sys2Proof.Machine
end

