-- ==== Sys2Proof/Certificates/Slice0/Obligations.lean ====
section
/-! DEFINITION. The statements for the provers. Each docstring names the rules of spec/ it rests on. -/

open Sys2Proof Sys2Proof.Machine

/-! ## Encoding -/

/-- R92, R93, R94: every command is read back from its own word, whatever its operands. -/
def Obligations.EncodedCommandDecodesToItself : Prop :=
  ∀ i : Instr, i.WellFormed → decode (encode i) = some i

/-- R92, R94: every word that decodes at all is the word of the command it decodes to, whose operands fit. -/
def Obligations.DecodedWordEncodesBack : Prop :=
  ∀ (w : CmdWord) (i : Instr), decode w = some i → i.WellFormed ∧ encode i = w

/-- R93: "a word decodes to the row exactly when `word & mask = match`", row by row. -/
def Obligations.DecodeFollowsMaskAndMatch : Prop :=
  ∀ w : CmdWord,
    (decode w = some .begin ↔ w &&& 0xFFFFFFFFFFFFFFFF = 0x0000000000000001) ∧
    ((∃ reg, decode w = some (.readWord reg)) ↔ w &&& 0xFFFFFFFFFFFF00FF = 0x0000000000000002) ∧
    ((∃ reg v, decode w = some (.writeWord reg v)) ↔ w &&& 0xFFFFFFFF000000FF = 0x0000000000000003) ∧
    (decode w = some .readAls ↔ w &&& 0xFFFFFFFFFFFFFFFF = 0x0000000000000004) ∧
    (decode w = some .getLux ↔ w &&& 0xFFFFFFFFFFFFFFFF = 0x0000000000000005) ∧
    ((∃ en, decode w = some (.setIntEn en)) ↔ w &&& 0xFFFFFFFFFFFEFFFF = 0x0000000000000006) ∧
    ((∃ p, decode w = some (.armThreshold p)) ↔ w &&& 0xFFFFFFFF0000FFFF = 0x0000000000000007) ∧
    (decode w = some .readClearFlags ↔ w &&& 0xFFFFFFFFFFFFFFFF = 0x0000000000000008) ∧
    (decode w = some .getLens ↔ w &&& 0xFFFFFFFFFFFFFFFF = 0x0000000000000009) ∧
    ((∃ v, decode w = some (.setLens v)) ↔ w &&& 0x00000000FFFFFFFF = 0x000000000000000A) ∧
    (decode w = some .release ↔ w &&& 0xFFFFFFFFFFFFFFFF = 0x000000000000000B)

/-- R94: each operand is the field of the word, used as given; the percentage is the field as two's complement. -/
def Obligations.OperandsAreTheFieldsAsGiven : Prop :=
  ∀ w : CmdWord,
    (∀ reg, decode w = some (.readWord reg) → reg = w.extractLsb' 8 8) ∧
    (∀ reg v, decode w = some (.writeWord reg v) → reg = w.extractLsb' 8 8 ∧ v = w.extractLsb' 16 16) ∧
    (∀ en, decode w = some (.setIntEn en) → en = w.extractLsb' 16 1 ∧ w.extractLsb' 17 15 = 0) ∧
    (∀ p, decode w = some (.armThreshold p) →
      p = (if w.getLsbD 31 then ((w.extractLsb' 16 16).toNat : Int) - 65536 else (w.extractLsb' 16 16).toNat) ∧
        -32768 ≤ p ∧ p ≤ 32767) ∧
    (∀ v, decode w = some (.setLens v) → v = w.extractLsb' 32 32)

/-- R95: exactly these words are illegal. Such a word is accepted like any other, and completes with `ILLEGAL_COMMAND`,
without a transaction and with `STATE` and `LENS` as they were. That acceptance takes one step and completion the next, with
`CUR` at `none`, is the model's choice (log entry 18), and so is `STEP` after the completion (log entry 10). -/
def Obligations.IllegalWordsAreAcceptedAndFail : Prop :=
  ∀ w : CmdWord,
    (decode w = none ↔
      w.extractLsb' 0 4 = (0 : BitVec 4) ∨ (0xC : BitVec 4) ≤ w.extractLsb' 0 4 ∨ w.extractLsb' 4 4 ≠ (0 : BitVec 4) ∨
        (w.extractLsb' 0 4 ∈ ([1, 4, 5, 8, 9, 0xB] : List (BitVec 4)) ∧ w.extractLsb' 8 56 ≠ (0 : BitVec 56)) ∨
        (w.extractLsb' 0 4 = (2 : BitVec 4) ∧ w.extractLsb' 16 48 ≠ (0 : BitVec 48)) ∨
        (w.extractLsb' 0 4 = (3 : BitVec 4) ∧ w.extractLsb' 32 32 ≠ (0 : BitVec 32)) ∨
        (w.extractLsb' 0 4 = (6 : BitVec 4) ∧
          (w.extractLsb' 8 8 ≠ (0 : BitVec 8) ∨ w.extractLsb' 17 47 ≠ (0 : BitVec 47))) ∨
        (w.extractLsb' 0 4 = (7 : BitVec 4) ∧
          (w.extractLsb' 8 8 ≠ (0 : BitVec 8) ∨ w.extractLsb' 32 32 ≠ (0 : BitVec 32))) ∨
        (w.extractLsb' 0 4 = (0xA : BitVec 4) ∧ w.extractLsb' 8 24 ≠ (0 : BitVec 24))) ∧
    (decode w = none → ∀ s : State, s.status ≠ .running → s.portNow.rst = false → s.portNow.cmdValid = true →
      s.portNow.cmdWord = w → (s.portAt 1).rst = false →
      ∃ t, step s = .next t ∧ t.status = .running ∧
        step t = .next { s with
          status := .illegalCommand, result := sentinel, err := 0, cur := none, stepIx := 0
          script := s.script.drop 2, tick := s.tick + 2 })

/-- R99: the examples, as text, as command and as word. -/
def Obligations.ExampleLinesAndWords : Prop :=
  ∀ e ∈ ([("BEGIN", .begin, 0x0000000000000001), ("READ_WORD ID", .readWord 0x07, 0x0000000000000702),
      ("WRITE_WORD WH, 0x1234", .writeWord 0x01 0x1234, 0x0000000012340103), ("GET_LUX", .getLux, 0x0000000000000005),
      ("SET_INT_EN 1", .setIntEn 1, 0x0000000000010006), ("ARM_THRESHOLD 10", .armThreshold 10, 0x00000000000A0007),
      ("ARM_THRESHOLD -5", .armThreshold (-5), 0x00000000FFFB0007),
      ("SET_LENS 0x00018000", .setLens 0x00018000, 0x000180000000000A), ("RELEASE", .release, 0x000000000000000B)] :
        List (String × Instr × CmdWord)),
    assembleLine e.1.toList = some e.2.1 ∧ encode e.2.1 = e.2.2 ∧ decode e.2.2 = some e.2.1

/-! ## The assembler -/

/-- R97: the base form that the model's disassembler prints for a command assembles to that command. How the disassembler
prints a number is the model's choice (log entry 15). -/
def Obligations.DisassembledLineAssembles : Prop :=
  ∀ i : Instr, i.WellFormed → assembleLine (disassemble i) = some i

/-- R98: each pseudo-command assembles to its one base command, with its operand given in hex. -/
def Obligations.PseudoCommandsExpand : Prop :=
  assembleLine "READ_CONF".toList = some (.readWord 0x00) ∧
  (∀ v : Word,
    assembleLine ("WRITE_CONF ".toList ++ hexNumber 4 v.toNat) = some (.writeWord 0x00 v) ∧
    assembleLine ("WRITE_WH ".toList ++ hexNumber 4 v.toNat) = some (.writeWord 0x01 v) ∧
    assembleLine ("WRITE_WL ".toList ++ hexNumber 4 v.toNat) = some (.writeWord 0x02 v) ∧
    assembleLine ("WRITE_PSM ".toList ++ hexNumber 4 v.toNat) = some (.writeWord 0x03 v)) ∧
  assembleLine "READ_WHITE".toList = some (.readWord 0x05) ∧
  assembleLine "READ_IF".toList = some (.readWord 0x06) ∧
  assembleLine "READ_ID".toList = some (.readWord 0x07) ∧
  assembleLine "DISABLE_INT".toList = some (.setIntEn 0) ∧
  assembleLine "ENABLE_INT".toList = some (.setIntEn 1)

/-! ## Steps of the machine -/

/-- R33: an idle block accepts the word at its port in one step; a busy one does not look at the port and keeps its command;
an `ILLEGAL` word is accepted all the same and then completes. That it is held as `cur = none` and completes in the step
after its acceptance is the model's choice (log entry 18). -/
def Obligations.AcceptanceOnlyWhenIdle : Prop :=
  (∀ s : State, s.portNow.rst = false → s.status ≠ .running → s.portNow.cmdValid = true →
    step s = .next { s with
      cur := decode s.portNow.cmdWord, stepIx := 0, status := .running
      state := if decode s.portNow.cmdWord = some .begin then .probing else s.state
      script := s.script.tail, tick := s.tick + 1 }) ∧
  (∀ (s : State) (p q : PortIn) (ps : List PortIn), s.status = .running → p.rst = false → q.rst = false →
    step { s with script := p :: ps } = step { s with script := q :: ps }) ∧
  (∀ s t : State, s.portNow.rst = false → s.status = .running → step s = .next t → t.cur = s.cur) ∧
  (∀ s : State, s.portNow.rst = false → s.status = .running → s.cur = none →
    step s = .next { s with
      status := .illegalCommand, result := sentinel, err := 0, script := s.script.tail, tick := s.tick + 1 })

/-- R6, R28, R33: a step runs the decoded command. After the acceptance of a word that decodes to `i`, and whenever `i` is
the current command of a busy block, the step is `exec` of `i`, and around it the step's inputs are used up. The same
holds of a word put in by `withFetchWord` (log entry 12). -/
def Obligations.StepRunsTheDecodedCommand : Prop :=
  (∀ (s : State) (i : Instr), s.portNow.rst = false → s.status = .running → s.cur = some i →
    (∀ t, exec i s = .next t → step s = .next { t with script := t.script.tail, tick := t.tick + 1 }) ∧
    (∀ r, exec i s = .fault r → step s = .fault r)) ∧
  (∀ (s : State) (i : Instr), s.portNow.rst = false → s.status ≠ .running → s.portNow.cmdValid = true →
    decode s.portNow.cmdWord = some i →
    ∃ t, step s = .next t ∧ t.status = .running ∧ t.cur = some i ∧ t.stepIx = 0) ∧
  (∀ (s : State) (w : CmdWord) (i : Instr), decode w = some i →
    step (s.withFetchWord 64 w.toNat) = thenAdvance (exec i (s.withFetchWord 64 w.toNat)))

/-- R283: a transaction is made only while a command runs: neither reset nor the idle state makes one, and an idle step
without a command changes nothing but the inputs used up. -/
def Obligations.OnlyARunningCommandTouchesTheBus : Prop :=
  (∀ s : State, s.portNow.rst = false → s.status ≠ .running → s.portNow.cmdValid = false →
    step s = .next { s with script := s.script.tail, tick := s.tick + 1 }) ∧
  (∀ s t : State, step s = .next t → t.draws ≠ s.draws →
    s.portNow.rst = false ∧ s.status = .running ∧ ∃ i, s.cur = some i ∧ transactions i ≠ 0)

/-- R281, R282, R283: whatever the block is doing, a step with `rst = 1` puts every item of R280 in its reset value and makes
no transaction. The registers whose reset value R280 leaves open are not named. Three parts are the model's: the record of
what was written stays (log entry 7), the inputs to come stay (log entry 6), and a word presented at the same step is not
accepted (log entry 17). -/
def Obligations.ResetAbandonsAnyCommand : Prop :=
  ∀ s : State, s.portNow.rst = true →
    ∃ t, step s = .next t ∧ t.state = .uninit ∧ t.lens = 0x00010000 ∧ t.slaveAddr = 0x29 ∧ t.status = .none ∧
      t.result = 0 ∧ t.err = 0 ∧ t.trace = [] ∧ t.outputs.cmdReady = true ∧
      t.written = s.written ∧ t.draws = s.draws ∧ t.answers = s.answers

/-- R280, the table: the reset values that the spec states. -/
def Obligations.ResetStateHasTheStatedValues : Prop :=
  State.reset.state = .uninit ∧ State.reset.lens = 0x00010000 ∧ State.reset.slaveAddr = 0x29 ∧
    State.reset.status = .none ∧ State.reset.result = 0 ∧ State.reset.err = 0 ∧ State.reset.trace = [] ∧
    State.reset.outputs = { cmdReady := true, status := 7, result := 0, err := 0, state := 0 }

/-- R22, R26, R27, R32: what the output ports show. -/
def Obligations.OutputPortsShowTheRegisters : Prop :=
  ∀ s : State,
    (s.outputs.cmdReady = true ↔ s.status ≠ .running) ∧ s.outputs.result = s.result ∧ s.outputs.err = s.err ∧
    (∀ st c, (st, c) ∈ [(Status.ok, (0 : BitVec 3)), (.busError, 1), (.identityMismatch, 2), (.invalidArgument, 3),
      (.illegalCommand, 4), (.running, 6), (.none, 7)] → (s.status = st ↔ s.outputs.status = c)) ∧
    (∀ x c, (x, c) ∈ [(InitState.uninit, (0 : BitVec 2)), (.probing, 1), (.configured, 2), (.failed, 3)] →
      (s.state = x ↔ s.outputs.state = c))

/-- R29, R30, R298: without a reset, RESULT and ERR change only at the step in which a running command ends. -/
def Obligations.OutputsChangeOnlyAtFinish : Prop :=
  ∀ s t : State, s.portNow.rst = false → step s = .next t → (t.result ≠ s.result ∨ t.err ≠ s.err) →
    s.status = .running ∧ t.status ≠ .running

/-- R150: the transitions of `STATE`, "These are all of them". -/
def Obligations.StateTransitionsAreTheListedOnes : Prop :=
  ∀ s t : State, s.Inv → step s = .next t → t.state ≠ s.state →
    (s.portNow.rst = true ∧ t.state = .uninit) ∨
    (s.portNow.rst = false ∧ s.status ≠ .running ∧ s.portNow.cmdValid = true ∧
      decode s.portNow.cmdWord = some .begin ∧ t.state = .probing) ∨
    (s.portNow.rst = false ∧ s.state = .probing ∧ s.cur = some .begin ∧ s.stepIx = 2 ∧ t.state = .failed ∧
      ∀ w, s.readOutcome 0x07 = .ok w → w.extractLsb' 0 8 ≠ (0x83 : BitVec 8)) ∨
    (s.portNow.rst = false ∧ s.state = .probing ∧ s.cur = some .begin ∧ s.stepIx = 6 ∧ t.state = .configured ∧
      t.status = .ok) ∨
    (s.portNow.rst = false ∧ s.status = .running ∧ s.cur = some .release ∧ t.state = .uninit ∧ t.status = .ok)

/-- R21, R24: what writes `LENS`, and with what. -/
def Obligations.LensWritersAreTheListedOnes : Prop :=
  ∀ s t : State, step s = .next t → t.lens ≠ s.lens →
    (s.portNow.rst = true ∧ t.lens = 0x00010000) ∨
    (s.status = .running ∧ s.cur = some (.setLens t.lens)) ∨
    (s.status = .running ∧ s.cur = some .begin ∧ s.stepIx = 6 ∧ t.state = .configured ∧ t.lens = 0x00010000) ∨
    (s.status = .running ∧ s.cur = some .release ∧ t.state = .uninit ∧ t.lens = 0x00010000)

/-- R11, R69, R73, R120, R121: a step makes at most one word transaction, which appends exactly one event. -/
def Obligations.StepMakesAtMostOneTransaction : Prop :=
  ∀ s t : State, s.portNow.rst = false → step s = .next t →
    (t.trace = s.trace ∧ t.wire = s.wire ∧ t.written = s.written ∧ t.answers = s.answers ∧ t.draws = s.draws) ∨
    (∃ e, t.trace = s.trace ++ [e] ∧ t.answers = s.answers.tail ∧ t.draws = s.draws + 1)

/-! ## Word transactions -/

/-- R122: the phases of a read, in their order, with the calls made and the event recorded. Nothing else of the block
changes. -/
def Obligations.ReadTransactionFollowsItsPhases : Prop :=
  ∀ (s : State) (reg : RegAddr),
    (∀ (o : ReadOutcome) (calls : List TxCall),
      (((s.answerNow.ackAddr = false ∨ s.answerNow.ack0 = false) ∧ o = .err .addrPhase ∧
          calls = [.txWrite s.slaveAddr [reg] false]) ∨
        (s.answerNow.ackAddr = true ∧ s.answerNow.ack0 = true ∧ s.answerNow.request = none ∧ o = .err .readPhase ∧
          calls = [.txWrite s.slaveAddr [reg] false, .txRequest s.slaveAddr 2]) ∨
        (s.answerNow.ackAddr = true ∧ s.answerNow.ack0 = true ∧ (∃ k, s.answerNow.request = some k ∧ k ≠ 2) ∧
          o = .err .byteCount ∧ calls = [.txWrite s.slaveAddr [reg] false, .txRequest s.slaveAddr 2]) ∨
        (s.answerNow.ackAddr = true ∧ s.answerNow.ack0 = true ∧ s.answerNow.request = some 2 ∧
          (∀ j < Config.pollLimit, availableAt s.answerNow j < 2) ∧ o = .err .notReady ∧
          calls = [.txWrite s.slaveAddr [reg] false, .txRequest s.slaveAddr 2] ++
            List.replicate Config.pollLimit .txAvailable) ∨
        (s.answerNow.ackAddr = true ∧ s.answerNow.ack0 = true ∧ s.answerNow.request = some 2 ∧
          ∃ k < Config.pollLimit, (∀ j < k, availableAt s.answerNow j < 2) ∧ 2 ≤ availableAt s.answerNow k ∧
            o = .ok ((s.answerNow.byte1.zeroExtend 16 <<< 8) ||| s.answerNow.byte0.zeroExtend 16) ∧
            calls = [.txWrite s.slaveAddr [reg] false, .txRequest s.slaveAddr 2] ++
              List.replicate (k + 1) .txAvailable ++ [.txReadByte, .txReadByte])) →
      s.readOutcome reg = o ∧
        s.afterRead reg = { s with
          trace := s.trace ++ [.read reg o], wire := s.wire ++ calls
          answers := s.answers.tail, draws := s.draws + 1 })

/-- R124: a write sends the register byte, the low byte and the high byte in one frame, and fails where any byte, the
address byte too, is not acknowledged. Nothing else of the block changes. What is noted as written, on either outcome, is the
model's choice (log entry 7). -/
def Obligations.WriteTransactionNeedsEveryAck : Prop :=
  ∀ (s : State) (reg : RegAddr) (v : Word),
    (s.writeOutcome reg v = .ok ↔
      s.answerNow.ackAddr = true ∧ s.answerNow.ack0 = true ∧ s.answerNow.ack1 = true ∧ s.answerNow.ack2 = true) ∧
    s.afterWrite reg v = { s with
      trace := s.trace ++ [.write reg v (s.writeOutcome reg v)]
      wire := s.wire ++ [.txWrite s.slaveAddr [reg, v.extractLsb' 0 8, v.extractLsb' 8 8] true]
      written := if s.writeOutcome reg v = .ok then s.written.writeWord reg v else s.written
      answers := s.answers.tail, draws := s.draws + 1 }

/-- R123: a read makes at most `POLL_LIMIT` availability checks, and at least one where it gets as far as the poll; data are
ready only if some check found two bytes. -/
def Obligations.PollMakesAtMostItsLimitOfChecks : Prop :=
  ∀ (limit : Nat) (slave : BusAddr) (reg : RegAddr) (a : BusAnswer), 1 ≤ limit →
    ((readTransaction limit slave reg a).2.count .txAvailable ≤ limit) ∧
    (a.ackAddr = true → a.ack0 = true → a.request = some 2 →
      1 ≤ (readTransaction limit slave reg a).2.count .txAvailable) ∧
    ((readTransaction limit slave reg a).1 = .err .notReady →
      (readTransaction limit slave reg a).2.count .txAvailable = limit)

/-- R125: a word transaction may be replaced by one free draw: every outcome can be drawn. -/
def Obligations.EveryTransactionOutcomeCanBeDrawn : Prop :=
  (∀ (s : State) (reg : RegAddr) (o : ReadOutcome), ∃ a, { s with answers := a :: s.answers }.readOutcome reg = o) ∧
  (∀ (s : State) (reg : RegAddr) (v : Word) (o : WriteOutcome),
    ∃ a, { s with answers := a :: s.answers }.writeOutcome reg v = o)

/-- R61, R128: the byte order on the wire, in numbers. -/
def Obligations.LowByteIsFramedFirst : Prop :=
  (∀ (slave : BusAddr) (r : RegAddr) (v : Word) (a : BusAnswer), ∃ b0 b1 : Byte,
    (writeTransaction slave r v a).2 = [.txWrite slave [r, b0, b1] true] ∧
      b0.toNat = v.toNat % 256 ∧ b1.toNat = v.toNat / 256) ∧
  (∀ (slave : BusAddr) (r : RegAddr) (a : BusAnswer) (limit : Nat) (w : Word),
    (readTransaction limit slave r a).2.head? = some (.txWrite slave [r] false) ∧
      ((readTransaction limit slave r a).1 = .ok w → w.toNat = a.byte1.toNat * 256 + a.byte0.toNat))

/-- R62, R68: what a transaction leaves in the device register space as written, byte by byte: a read leaves all of it, a
write changes the two bytes of its own register, low byte first, and only where it succeeds. Where the bytes lie is the
model's choice (log entry 7). -/
def Obligations.TransactionsWriteOnlyTheirRegister : Prop :=
  ∀ (s : State) (reg : RegAddr) (v : Word) (a : Nat),
    (s.afterRead reg).written.readByte a = s.written.readByte a ∧
    (s.writeOutcome reg v = .nack → (s.afterWrite reg v).written.readByte a = s.written.readByte a) ∧
    (a ≠ 2 * reg.toNat → a ≠ 2 * reg.toNat + 1 →
      (s.afterWrite reg v).written.readByte a = s.written.readByte a) ∧
    (s.writeOutcome reg v = .ok →
      (s.afterWrite reg v).written.readByte (2 * reg.toNat) = some (v.extractLsb' 0 8) ∧
      (s.afterWrite reg v).written.readByte (2 * reg.toNat + 1) = some (v.extractLsb' 8 8))

/-! ## Commands, micro-step by micro-step. What `afterRead` and `afterWrite` change is stated above. -/

/-- R126: READ_WORD. -/
def Obligations.ReadWordCompletes : Prop :=
  ∀ (reg : RegAddr) (s : State), s.stepIx = 0 →
    (∀ w, s.readOutcome reg = .ok w → exec (.readWord reg) s = .next { s.afterRead reg with
      status := .ok, result := w.zeroExtend 64, err := 0 }) ∧
    (∀ c, s.readOutcome reg = .err c → exec (.readWord reg) s = .next { s.afterRead reg with
      status := .busError, result := sentinel, err := errWord c.cause 0 reg })

/-- R127: WRITE_WORD. -/
def Obligations.WriteWordCompletes : Prop :=
  ∀ (reg : RegAddr) (v : Word) (s : State), s.stepIx = 0 →
    (s.writeOutcome reg v = .ok → exec (.writeWord reg v) s = .next { s.afterWrite reg v with
      status := .ok, result := 0, err := 0 }) ∧
    (s.writeOutcome reg v = .nack → exec (.writeWord reg v) s = .next { s.afterWrite reg v with
      status := .busError, result := sentinel, err := errWord .writeNack 0 reg })

/-- R190: READ_ALS. -/
def Obligations.ReadAlsCompletes : Prop :=
  ∀ s : State, s.stepIx = 0 →
    (∀ w, s.readOutcome 0x04 = .ok w → exec .readAls s = .next { s.afterRead 0x04 with
      status := .ok, result := w.zeroExtend 64, err := 0 }) ∧
    (∀ c, s.readOutcome 0x04 = .err c → exec .readAls s = .next { s.afterRead 0x04 with
      status := .busError, result := sentinel, err := errWord c.cause 0 0x04 })

/-- R230: READ_CLEAR_FLAGS. It answers 1 exactly where bit 14 or bit 15 is set, and writes nothing to the sensor. -/
def Obligations.ReadClearFlagsCompletes : Prop :=
  ∀ s : State, s.stepIx = 0 →
    (∀ w, s.readOutcome 0x06 = .ok w → exec .readClearFlags s = .next { s.afterRead 0x06 with
      status := .ok, result := if w &&& 0xC000 = 0 then 0 else 1, err := 0 }) ∧
    (∀ c, s.readOutcome 0x06 = .err c → exec .readClearFlags s = .next { s.afterRead 0x06 with
      status := .busError, result := sentinel, err := errWord c.cause 0 0x06 })

/-- R160: GET_LENS, in one step without a transaction. -/
def Obligations.GetLensCompletes : Prop :=
  ∀ s : State, exec .getLens s = .next { s with status := .ok, result := s.lens.zeroExtend 64, err := 0 }

/-- R162: SET_LENS, in one step without a transaction, with any value. -/
def Obligations.SetLensCompletes : Prop :=
  ∀ (v : Lens) (s : State), exec (.setLens v) s = .next { s with lens := v, status := .ok, result := 0, err := 0 }

/-- R192: GET_LUX. The count is not read where the ALS_CONF read fails. -/
def Obligations.GetLuxCompletes : Prop :=
  ∀ s : State,
    (s.stepIx = 0 →
      (∀ w, s.readOutcome 0x00 = .ok w → exec .getLux s = .next { s.afterRead 0x00 with confW := w, stepIx := 1 }) ∧
      (∀ c, s.readOutcome 0x00 = .err c → exec .getLux s = .next { s.afterRead 0x00 with
        status := .busError, result := sentinel, err := errWord c.cause 0 0x00 })) ∧
    (s.stepIx = 1 →
      (∀ w, s.readOutcome 0x04 = .ok w → exec .getLux s = .next { s.afterRead 0x04 with
        count := w, status := .ok, result := (convert s.confW w s.lens).zeroExtend 64, err := 0 }) ∧
      (∀ c, s.readOutcome 0x04 = .err c → exec .getLux s = .next { s.afterRead 0x04 with
        status := .busError, result := sentinel, err := errWord c.cause 1 0x04 }))

/-- R211, R212: SET_INT_EN. The write puts back the word read with only bit 1 changed, also where nothing changes. That
`CONF_W` holds the word between them is log entry 9 (DEDUCED). -/
def Obligations.SetIntEnCompletes : Prop :=
  ∀ (en : BitVec 1) (s : State),
    (s.stepIx = 0 →
      (∀ w, s.readOutcome 0x00 = .ok w →
        exec (.setIntEn en) s = .next { s.afterRead 0x00 with confW := w, stepIx := 1 }) ∧
      (∀ c, s.readOutcome 0x00 = .err c → exec (.setIntEn en) s = .next { s.afterRead 0x00 with
        status := .busError, result := sentinel, err := errWord c.cause 0 0x00 })) ∧
    (s.stepIx = 1 → ∀ w', w' = (s.confW &&& 0xFFFD) ||| (en.zeroExtend 16 <<< 1) →
      (s.writeOutcome 0x00 w' = .ok → exec (.setIntEn en) s = .next { s.afterWrite 0x00 w' with
        status := .ok, result := 0, err := 0 }) ∧
      (s.writeOutcome 0x00 w' = .nack → exec (.setIntEn en) s = .next { s.afterWrite 0x00 w' with
        status := .busError, result := sentinel, err := errWord .writeNack 1 0x00 }))

/-- R211, R220: ARM_THRESHOLD, its argument check and its seven transactions. That `CONF_W` holds the word between the read
and the write of an interrupt-enable update is log entry 9 (DEDUCED). -/
def Obligations.ArmThresholdCompletes : Prop :=
  ∀ (p : Int) (s : State),
    (s.stepIx = 0 → p ≤ 0 → exec (.armThreshold p) s = .next { s with
      status := .invalidArgument, result := sentinel, err := 0 }) ∧
    (s.stepIx = 0 → 0 < p →
      (∀ w, s.readOutcome 0x04 = .ok w → exec (.armThreshold p) s = .next { s.afterRead 0x04 with
        count := w, whV := (window w p).1, wlV := (window w p).2, stepIx := 1 }) ∧
      (∀ c, s.readOutcome 0x04 = .err c → exec (.armThreshold p) s = .next { s.afterRead 0x04 with
        status := .busError, result := sentinel, err := errWord c.cause 0 0x04 })) ∧
    (∀ k : BitVec 3, k = 1 ∨ k = 5 → s.stepIx = k →
      (∀ w, s.readOutcome 0x00 = .ok w →
        exec (.armThreshold p) s = .next { s.afterRead 0x00 with confW := w, stepIx := k + 1 }) ∧
      (∀ c, s.readOutcome 0x00 = .err c → exec (.armThreshold p) s = .next { s.afterRead 0x00 with
        status := .busError, result := sentinel, err := errWord c.cause (k.zeroExtend 4) 0x00 })) ∧
    (∀ (k : BitVec 3) (reg : RegAddr) (v : Word),
      (k, reg, v) ∈ [(2, 0x00, s.confW &&& 0xFFFD), (3, 0x01, s.whV), (4, 0x02, s.wlV)] → s.stepIx = k →
      (s.writeOutcome reg v = .ok → exec (.armThreshold p) s = .next { s.afterWrite reg v with stepIx := k + 1 }) ∧
      (s.writeOutcome reg v = .nack → exec (.armThreshold p) s = .next { s.afterWrite reg v with
        status := .busError, result := sentinel, err := errWord .writeNack (k.zeroExtend 4) reg })) ∧
    (s.stepIx = 6 → ∀ w', w' = (s.confW &&& 0xFFFD) ||| 0x0002 →
      (s.writeOutcome 0x00 w' = .ok → exec (.armThreshold p) s = .next { s.afterWrite 0x00 w' with
        status := .ok, result := (0 : BitVec 32) ++ s.whV ++ s.wlV, err := 0 }) ∧
      (s.writeOutcome 0x00 w' = .nack → exec (.armThreshold p) s = .next { s.afterWrite 0x00 w' with
        status := .busError, result := sentinel, err := errWord .writeNack 6 0x00 }))

/-- R151, R152, R153: BEGIN's seven transactions. No write's outcome matters. -/
def Obligations.BeginCompletes : Prop :=
  ∀ s : State,
    (∀ (k : BitVec 3) (reg : RegAddr) (v : Word),
      (k, reg, v) ∈ [(0, 0x02, 0x0000), (1, 0x02, 0x0000), (3, 0x00, 0x1000), (4, 0x01, 0xFFFF), (5, 0x02, 0x0000)] →
      s.stepIx = k → exec .begin s = .next { s.afterWrite reg v with stepIx := k + 1 }) ∧
    (s.stepIx = 2 →
      (∀ w, s.readOutcome 0x07 = .ok w → w.extractLsb' 0 8 = (0x83 : BitVec 8) →
        exec .begin s = .next { s.afterRead 0x07 with stepIx := 3 }) ∧
      (∀ w, s.readOutcome 0x07 = .ok w → w.extractLsb' 0 8 ≠ (0x83 : BitVec 8) →
        exec .begin s = .next { s.afterRead 0x07 with
          state := .failed, status := .identityMismatch, result := sentinel, err := 0x0726 }) ∧
      (∀ c, s.readOutcome 0x07 = .err c → exec .begin s = .next { s.afterRead 0x07 with
        state := .failed, status := .busError, result := sentinel, err := errWord c.cause 2 0x07 })) ∧
    (s.stepIx = 6 → exec .begin s = .next { s.afterWrite 0x03 0x0000 with
      lens := 0x00010000, state := .configured, status := .ok, result := 0, err := 0 })

/-- R156, R211: RELEASE's two transactions. It ends with OK, UNINIT and lens 1.0 whatever they answer. That `CONF_W` holds
the word between them is log entry 9 (DEDUCED). -/
def Obligations.ReleaseCompletes : Prop :=
  ∀ s : State,
    (s.stepIx = 0 →
      (∀ w, s.readOutcome 0x00 = .ok w → exec .release s = .next { s.afterRead 0x00 with confW := w, stepIx := 1 }) ∧
      (∀ c, s.readOutcome 0x00 = .err c → exec .release s = .next { s.afterRead 0x00 with
        state := .uninit, lens := 0x00010000, status := .ok, result := 0, err := 0 })) ∧
    (s.stepIx = 1 → exec .release s = .next { s.afterWrite 0x00 (s.confW &&& 0xFFFD) with
      state := .uninit, lens := 0x00010000, status := .ok, result := 0, err := 0 })

/-- The model's choice (log entry 11), resting on R28's range of `STEP`: a meaning stops only where `STEP` is none of the
command's transactions, and no meaning refuses. -/
def Obligations.MeaningStopsOnlyBeyondItsTransactions : Prop :=
  ∀ (i : Instr) (s : State),
    (exec i s = .fault .stepOutOfRange ↔ transactions i ≠ 0 ∧ transactions i ≤ s.stepIx.toNat) ∧
    (∀ r, exec i s ≠ .refused r)

/-- R30, R252: the fields of ERR, and the causes' codes. -/
def Obligations.ErrHoldsCauseStepAndRegister : Prop :=
  (∀ (c : Cause) (k : BitVec 4) (reg : RegAddr),
    (errWord c k reg).extractLsb' 0 4 = c.code ∧ (errWord c k reg).extractLsb' 4 4 = k ∧
      (errWord c k reg).extractLsb' 8 8 = reg) ∧
  [Cause.writeNack, .addrPhase, .readPhase, .byteCount, .notReady, .idMismatch].map Cause.code = [1, 2, 3, 4, 5, 6] ∧
  errWord .idMismatch 2 0x07 = 0x0726

/-- R31: a command that fails, an ILLEGAL one too, writes SENTINEL, which is −1 as a signed number; one that succeeds writes
a value below 2^58 (GET_LUX) or 2^32 (any other). -/
def Obligations.ResultSignTellsFailure : Prop :=
  ∀ s t : State, s.portNow.rst = false → s.status = .running → step s = .next t → t.status ≠ .running →
    (t.status ≠ .ok → t.result = 0xFFFFFFFFFFFFFFFF ∧ t.result.toInt = -1) ∧
    (t.status = .ok → t.result.toNat < 2 ^ 58 ∧ (s.cur ≠ some .getLux → t.result.toNat < 2 ^ 32)) ∧
    (t.result.getLsbD 63 = true ↔ t.status ≠ .ok)

/-- R23: `STATE` is no guard: a command does the same, but for `STATE` itself, whatever `STATE` holds. -/
def Obligations.StateIsNoGuard : Prop :=
  ∀ (i : Instr) (s t : State) (x : InitState), exec i s = .next t →
    ∃ u, exec i { s with state := x } = .next u ∧ { u with state := t.state } = t ∧
      (t.state ≠ s.state → u.state = t.state)

/-! ## The converter -/

/-- R181: the fields the converter takes from ALS_CONF, and that no bit but 6 to 12 affects the result. -/
def Obligations.ConverterReadsOnlyBitsSixToTwelve : Prop :=
  (∀ conf : Word, AlsConf.it conf = conf.extractLsb' 6 4 ∧ AlsConf.gain conf = conf.getLsbD 10 ∧
    AlsConf.dg conf = conf.getLsbD 11 ∧ AlsConf.sens conf = conf.getLsbD 12) ∧
  (∀ (conf conf' count : Word) (lens : Lens), conf &&& 0x1FC0 = conf' &&& 0x1FC0 →
    convert conf count lens = convert conf' count lens)

/-- R182, R183: the index and the resolution of each of the sixteen integration-time codes, and the table of resolutions in
LUT units of 1/2500 lux. -/
def Obligations.ResolutionOfEveryCode : Prop :=
  (List.range 16).map (fun k => resolutionIndex (BitVec.ofNat 4 k)) = [2, 3, 4, 5, 1, 1, 1, 1, 1, 1, 1, 1, 0, 0, 0, 0] ∧
  (List.range 16).map (fun k => resolution (BitVec.ofNat 4 k)) =
    [8, 4, 2, 1, 16, 16, 16, 16, 16, 16, 16, 16, 32, 32, 32, 32] ∧
  resolutionTable = [32, 16, 8, 4, 2, 1] ∧
  ∀ k < 6, resolutionTable.getD k 0 = 2 ^ (5 - k) ∧
    (resolutionTable.getD k 0 : Rat) / 2500 =
      ([128 / 10000, 64 / 10000, 32 / 10000, 16 / 10000, 8 / 10000, 4 / 10000] : List Rat).getD k 0

/-- R186, R187: the result is the exact product, it never wraps, and the count product is the count shifted left by at
most ten. -/
def Obligations.ConvertIsTheExactProduct : Prop :=
  (∀ (conf count : Word) (lens : Lens),
    countProduct conf count = count.toNat * resolution (conf.extractLsb' 6 4) * (if conf.getLsbD 11 then 1 else 2) *
      (if conf.getLsbD 10 then (if conf.getLsbD 12 then 8 else 1) else (if conf.getLsbD 12 then 16 else 2)) ∧
    (convert conf count lens).toNat = countProduct conf count * lens.toNat ∧
    ((convert conf count lens).zeroExtend 64).extractLsb' 58 6 = (0 : BitVec 6) ∧
    countProduct conf count ≤ 67107840 ∧ (convert conf count lens).toNat ≤ 288225978038092800 ∧
    ∃ k g, gainFactor (conf.getLsbD 10) (conf.getLsbD 12) = 2 ^ g ∧
      k = (5 - resolutionIndex (conf.extractLsb' 6 4)) + (if conf.getLsbD 11 then 0 else 1) + g ∧ k ≤ 10 ∧
      countProduct conf count = count.toNat * 2 ^ k) ∧
  countProduct 0x1300 0xFFFF = 67107840

/-- R188: the illuminance that the result stands for is the source's formula, evaluated exactly with its decimals. -/
def Obligations.ResultStandsForTheDecimalFormula : Prop :=
  ∀ (conf count : Word) (lens : Lens),
    ((convert conf count lens).toNat : Rat) / 163840000 =
      (count.toNat : Rat) *
        ([128 / 10000, 64 / 10000, 32 / 10000, 16 / 10000, 8 / 10000, 4 / 10000] : List Rat).getD
          (if conf.extractLsb' 6 4 ≤ (3 : BitVec 4) then (conf.extractLsb' 6 4).toNat + 2
            else if (conf.extractLsb' 8 2 : BitVec 2) = 3 then 0 else 1) 0 *
        (if conf.getLsbD 11 then 1 else 2) *
        (if conf.getLsbD 10 then (if conf.getLsbD 12 then 8 else 1) else (if conf.getLsbD 12 then 16 else 2)) *
        ((lens.toNat : Rat) / 65536)

/-- R193: the result is non-decreasing in the count, strictly increasing where LENS is not 0, and not monotone in the
integration-time code. -/
def Obligations.ConvertIsMonotoneInTheCount : Prop :=
  (∀ (conf c c' : Word) (lens : Lens), c ≤ c' → convert conf c lens ≤ convert conf c' lens) ∧
  (∀ (conf c c' : Word) (lens : Lens), 0 < lens → c < c' → convert conf c lens < convert conf c' lens) ∧
  (∃ (conf conf' conf'' count : Word) (lens : Lens),
    AlsConf.it conf < AlsConf.it conf' ∧ AlsConf.it conf' < AlsConf.it conf'' ∧
      conf &&& 0xFC3F = conf' &&& 0xFC3F ∧ conf' &&& 0xFC3F = conf'' &&& 0xFC3F ∧
      convert conf' count lens < convert conf count lens ∧ convert conf' count lens < convert conf'' count lens)

/-! ## The interrupt unit -/

/-- R211, R42: the word written back has bit 1 as asked and every other bit as read. -/
def Obligations.IntEnUpdateChangesOnlyBitOne : Prop :=
  ∀ (en : BitVec 1) (w : Word),
    AlsConf.withIntEn en w = (w &&& 0xFFFD) ||| (en.zeroExtend 16 <<< 1) ∧
    ∀ i < 16, (AlsConf.withIntEn en w).getLsbD i = if i = 1 then en.getLsbD 0 else w.getLsbD i

/-- R215: the thresholds are the exact rationals, raised, clamped and then floored; the cast to 16 bits loses nothing. -/
def Obligations.WindowIsExactThenFloored : Prop :=
  ∀ (count : Word) (p : Int), 0 < p → ∀ wh wl : Rat,
    wh = (count.toNat : Rat) * (100 + p) / 100 → wl = (count.toNat : Rat) * (100 - p) / 100 →
    (((window count p).1.toNat : Int) = ⌊min (if wh - wl < 1 then wh + 1 else wh) 65535⌋) ∧
    (((window count p).2.toNat : Int) = ⌊max wl 0⌋)

/-- R216: the integer datapath computes the same thresholds. -/
def Obligations.WindowHasTheIntegerForm : Prop :=
  ∀ (count : Word) (p : Int), 1 ≤ p → p ≤ 32767 →
    ((window count p).1.toNat : Int) =
        min (((count.toNat : Int) * (100 + p) + (if (count.toNat : Int) * p < 50 then 100 else 0)) / 100) 65535 ∧
    ((window count p).2.toNat : Int) =
        (if (count.toNat : Int) * (100 - p) ≤ 0 then 0 else (count.toNat : Int) * (100 - p) / 100)

/-- R217: the window is never empty, and its gap can exceed 1 even when the increment fires. -/
def Obligations.WindowIsNeverEmpty : Prop :=
  (∀ (count : Word) (p : Int), 0 < p → (window count p).2.toNat + 1 ≤ (window count p).1.toNat) ∧
  window 10 1 = (11, 9)

/-! ## Whole commands -/

/-- R6, R15, R28 and the pseudocode of R126 to R230: the micro-steps of a command, from its acceptance on, end within
seven steps in the state that the command's pseudocode gives, in everything the host or the sensor can see. What one
micro-step holds is log entry 1. -/
def Obligations.MicroStepsRunThePseudocode : Prop :=
  ∀ (i : Instr) (s : State), s.hasAccepted i →
    ∃ t, untilIdle 7 s = .next t ∧ t.status ≠ .running ∧ t.visible = (pseudocode i s).visible

/-- R151, R153, R155: BEGIN, whatever `STATE` it starts in. The two defensive writes come first and always. Its outcome
depends on the ID read only; where that fails or mismatches nothing more is written. -/
def Obligations.BeginDependsOnTheIdReadOnly : Prop :=
  ∀ s : State, s.hasAccepted .begin →
    ∃ t o1 o2, untilIdle 7 s = .next t ∧
      ((∃ w o3 o4 o5 o6, w.extractLsb' 0 8 = (0x83 : BitVec 8) ∧
          s.added t [.write 0x02 0x0000 o1, .write 0x02 0x0000 o2, .read 0x07 (.ok w), .write 0x00 0x1000 o3,
            .write 0x01 0xFFFF o4, .write 0x02 0x0000 o5, .write 0x03 0x0000 o6] ∧
          t.status = .ok ∧ t.result = 0 ∧ t.err = 0 ∧ t.state = .configured ∧ t.lens = 0x00010000) ∨
        (∃ w, w.extractLsb' 0 8 ≠ (0x83 : BitVec 8) ∧
          s.added t [.write 0x02 0x0000 o1, .write 0x02 0x0000 o2, .read 0x07 (.ok w)] ∧
          t.status = .identityMismatch ∧ t.result = sentinel ∧ t.err = 0x0726 ∧ t.state = .failed ∧ t.lens = s.lens) ∨
        (∃ c, s.added t [.write 0x02 0x0000 o1, .write 0x02 0x0000 o2, .read 0x07 (.err c)] ∧
          t.status = .busError ∧ t.result = sentinel ∧ t.err = errWord c.cause 2 0x07 ∧ t.state = .failed ∧
          t.lens = s.lens))

/-- R221, R253, R255: ARM_THRESHOLD with a positive percentage. Where it fails at the transaction `k`, every transaction
before succeeded, none follows, and the successful writes are exactly those of R221's table. -/
def Obligations.FailedArmLeavesTheWritesBeforeIt : Prop :=
  ∀ (p : Int) (s : State), 0 < p → s.hasAccepted (.armThreshold p) →
    ∃ t es, untilIdle 7 s = .next t ∧ s.added t es ∧
      ((t.status = .ok ∧ es.length = 7 ∧ ∀ e ∈ es, e.succeeded = true) ∨
        (t.status = .busError ∧ ∃ (k : Nat) (count conf : Word), k ≤ 6 ∧ es.length = k + 1 ∧
          (t.err.extractLsb' 4 4).toNat = k ∧
          (∀ j < k, ∃ e, es[j]? = some e ∧ e.succeeded = true) ∧ (∃ e, es[k]? = some e ∧ e.succeeded = false) ∧
          (1 ≤ k → es[0]? = some (.read 0x04 (.ok count))) ∧ (2 ≤ k → es[1]? = some (.read 0x00 (.ok conf))) ∧
          successfulWrites es =
            [(0x00, conf &&& 0xFFFD), (0x01, (window count p).1), (0x02, (window count p).2)].take
              ([0, 0, 0, 1, 2, 3, 3].getD k 0)))

/-- R220, R222: a successful ARM_THRESHOLD writes a window with WH > WL while INT_EN is clear, and only then sets INT_EN. The
record of what was written, which the last clauses read, is the model's choice (log entry 7). -/
def Obligations.SuccessfulArmWritesWhileDisabled : Prop :=
  ∀ (p : Int) (s t : State), 0 < p → s.hasAccepted (.armThreshold p) → untilIdle 7 s = .next t → t.status = .ok →
    ∃ count conf conf' : Word,
      s.added t [.read 0x04 (.ok count), .read 0x00 (.ok conf), .write 0x00 (conf &&& 0xFFFD) .ok,
        .write 0x01 (window count p).1 .ok, .write 0x02 (window count p).2 .ok, .read 0x00 (.ok conf'),
        .write 0x00 ((conf' &&& 0xFFFD) ||| 0x0002) .ok] ∧
      (window count p).2 < (window count p).1 ∧
      t.result = (0 : BitVec 32) ++ (window count p).1 ++ (window count p).2 ∧
      t.written.readWord 0x00 = some ((conf' &&& 0xFFFD) ||| 0x0002) ∧
      t.written.readWord 0x01 = some (window count p).1 ∧ t.written.readWord 0x02 = some (window count p).2

/-- R305: how many transactions a command makes, on success and on failure. RELEASE always ends with OK, after one
transaction where its read fails. -/
def Obligations.TransactionCountsOfEveryCommand : Prop :=
  ∀ (i : Instr) (s : State), s.hasAccepted i →
    ∃ t es, untilIdle 7 s = .next t ∧ s.added t es ∧
      (i ≠ .release → t.status = .ok → es.length = transactions i) ∧
      (i = .release → t.status = .ok ∧ ((es.length = 1 ∧ ∃ c, es = [.read 0x00 (.err c)]) ∨ es.length = 2)) ∧
      (t.status ≠ .ok →
        match i with
        | .begin => es.length = 3
        | .readWord _ | .writeWord _ _ | .readAls | .readClearFlags => es.length = 1
        | .getLux | .setIntEn _ => es.length = 1 ∨ es.length = 2
        | .armThreshold p => if p ≤ 0 then es.length = 0 else 1 ≤ es.length ∧ es.length ≤ 7
        | .getLens | .setLens _ | .release => False)

/-! ## Under the named premises about the sensor -/

/-- R77: under `DeviceEcho`, a successful write to one of the four writable registers and then, as the next transaction to
that register, a read give back the word written; and so do the commands WRITE_WORD and then READ_WORD. How the model words
`DeviceEcho` is log entry 16. -/
def Obligations.RoundTripUnderDeviceEcho : Prop :=
  (∀ (m : Memory) (r : RegAddr) (v : Word) (o : ReadOutcome) (es : List BusEvent), r ≤ 3 →
    (∀ e ∈ es, (∀ x, e ≠ .read r x) ∧ ∀ w x, e ≠ .write r w x) →
    DeviceEcho m (.write r v .ok :: (es ++ [.read r o])) → o = .ok v) ∧
  (∀ (r : RegAddr) (v : Word) (s : State), r ≤ 3 → s.hasAccepted (.writeWord r v) →
    (s.portAt 1).cmdValid = true → (s.portAt 1).cmdWord = encode (.readWord r) →
    ∃ t t' u es, untilIdle 7 s = .next t ∧ step t = .next t' ∧ untilIdle 7 t' = .next u ∧ s.added u es ∧
      (DeviceEcho s.written es → t.status = .ok ∧ u.status = .ok ∧ u.result = v.zeroExtend 64))

/-- R67: under `DeviceEcho`, reads of the four writable registers are idempotent: two reads of one without a write to it
between return the same word, also where nothing has written it before; and so do the commands READ_WORD and READ_WORD. How
the model words `DeviceEcho` is log entry 16. -/
def Obligations.ReadsAreIdempotentUnderDeviceEcho : Prop :=
  (∀ (m : Memory) (r : RegAddr) (o o' : ReadOutcome) (es : List BusEvent), r ≤ 3 →
    (∀ e ∈ es, ∀ w x, e ≠ .write r w x) →
    DeviceEcho m (.read r o :: (es ++ [.read r o'])) → o' = o ∧ ∃ w, o = .ok w) ∧
  (∀ (r : RegAddr) (s : State), r ≤ 3 → s.hasAccepted (.readWord r) →
    (s.portAt 1).cmdValid = true → (s.portAt 1).cmdWord = encode (.readWord r) →
    ∃ t t' u es, untilIdle 7 s = .next t ∧ step t = .next t' ∧ untilIdle 7 t' = .next u ∧ s.added u es ∧
      (DeviceEcho s.written es → t.status = .ok ∧ u.status = .ok ∧ u.result = t.result))

/-- R291 (a): under `IfClearOnRead`, a host that reads the flags twice without a new crossing between sees a set flag at
most once. How the model words `IfClearOnRead` is log entry 16. -/
def Obligations.FlagIsSeenAtMostOnce : Prop :=
  ∀ (s : State) (crossing : Nat → Prop), s.hasAccepted .readClearFlags →
    (s.portAt 1).cmdValid = true → (s.portAt 1).cmdWord = encode .readClearFlags →
    ∃ t t' u es, untilIdle 7 s = .next t ∧ step t = .next t' ∧ untilIdle 7 t' = .next u ∧ s.added u es ∧
      (IfClearOnRead crossing es → ¬ crossing 0 → t.status = .ok → u.status = .ok → u.result = 0)

/-! ## Invariants -/

/-- The invariant holds at reset. -/
def Obligations.InvariantHoldsAtReset : Prop := State.reset.Inv

/-- R22, R25, R29 to R31, R150, R217 and the memory's canonical form: every step keeps the invariant, whatever the host
drives and the environment answers. -/
def Obligations.EveryStepKeepsTheInvariant : Prop :=
  ∀ s t : State, s.Inv → step s = .next t → t.Inv

/-- From every state with the invariant the machine runs for ever: no number of steps meets a fault or a refusal
(R251: "Failures are results, not traps"). -/
def Obligations.TheMachineNeverStops : Prop :=
  ∀ (k : Nat) (s : State), s.Inv → ∃ t, Sys2Proof.core.run k s = .next t ∧ State.Inv t
end

