-- ==== Sys2Proof/Laws/Assembler.lean ====
section
/-! SUPPORT. The laws of the assembler's digits. -/

namespace Sys2Proof.Machine

/-- Every digit that the disassembler prints is read back with its value. -/
theorem digitValue_hexDigit : ∀ d < 16, digitValue (hexDigit d) = some d := by decide

/-- A digit's value is below 16. -/
theorem digitValue_lt {c : Char} {d : Nat} (h : digitValue c = some d) : d < 16 := by
  have bound : ∀ l : List Char, l.length = 16 → l.idxOf? c = some d → d < 16 := fun l hl hd => by
    rw [List.idxOf?, List.findIdx?_eq_some_iff_getElem] at hd
    exact hl ▸ hd.1
  rcases Option.or_eq_some_iff.mp h with h | h
  · exact bound _ (by decide) h
  · exact bound _ (by decide) h.2

end Sys2Proof.Machine
end

