-- ==== Sys2Proof/Laws/Memory.lean ====
section
/-! SUPPORT. The device register space: what a write does to every read, and that every operation keeps the canonical
form. -/

namespace Sys2Proof.Machine

@[simp] theorem Memory.readByte_nil (a : Nat) : Memory.readByte [] a = none := rfl

/-- A read after a write of one byte: the byte written at its address, what was there before everywhere else. -/
theorem Memory.readByte_writeByte (m : Memory) (a a' : Nat) (b : Byte) :
    (m.writeByte a b).readByte a' = if a' = a then some b else m.readByte a' := by
  induction m with
  | nil => simp [writeByte, readByte, eq_comm]
  | cons c m ih =>
    by_cases h : a' = a
    · subst h
      by_cases h1 : a' < c.1
      · simp [writeByte, readByte, h1]
      · by_cases h2 : a' = c.1
        · simp [writeByte, readByte, h2]
        · simp [writeByte, readByte, h1, h2, ih, Ne.symm h2]
    · have h' : a ≠ a' := Ne.symm h
      by_cases h1 : a < c.1
      · simp [writeByte, readByte, h1, h, h']
      · by_cases h2 : a = c.1
        · simp [writeByte, readByte, ← h2, h, h']
        · simp [writeByte, readByte, h1, h2, ih, h]

/-- Every address of a written memory is the address written or was there before. -/
theorem Memory.mem_writeByte {m : Memory} {a : Nat} {b : Byte} {c : Host.Cell} (h : c ∈ m.writeByte a b) :
    c = (a, b) ∨ c ∈ m := by
  induction m with
  | nil => simpa [writeByte] using h
  | cons d m ih =>
    unfold writeByte at h
    split at h
    · simpa using h
    · split at h
      · rcases List.mem_cons.mp h with h | h
        · exact .inl h
        · exact .inr (List.mem_cons_of_mem _ h)
      · rcases List.mem_cons.mp h with h | h
        · exact .inr (h ▸ List.mem_cons_self)
        · exact (ih h).imp_right (List.mem_cons_of_mem _)

/-- Writing a byte keeps the canonical form. -/
theorem Memory.wf_writeByte {m : Memory} (h : m.wf) (a : Nat) (b : Byte) : (m.writeByte a b).wf := by
  induction m with
  | nil => simp [writeByte]
  | cons c m ih =>
    have ⟨hc, hm⟩ := List.pairwise_cons.mp h
    unfold writeByte
    split
    · rename_i hlt
      refine List.pairwise_cons.mpr ⟨fun d hd => ?_, h⟩
      rcases List.mem_cons.mp hd with rfl | hd
      · exact hlt
      · exact Nat.lt_trans hlt (hc d hd)
    · split
      · rename_i heq
        exact List.pairwise_cons.mpr ⟨fun d hd => heq ▸ hc d hd, hm⟩
      · rename_i hlt hne
        refine List.pairwise_cons.mpr ⟨fun d hd => ?_, ih hm⟩
        rcases mem_writeByte hd with rfl | hd
        · exact Nat.lt_of_le_of_ne (Nat.le_of_not_lt hlt) (Ne.symm hne)
        · exact hc d hd

/-- Writing a word keeps the canonical form. -/
theorem Memory.wf_writeWord {m : Memory} (h : m.wf) (reg : RegAddr) (v : Word) : (m.writeWord reg v).wf :=
  wf_writeByte (wf_writeByte h _ _) _ _

/-- Noting a write keeps the canonical form. -/
theorem Memory.wf_note {m : Memory} (h : m.wf) (reg : RegAddr) (v : Word) (o : WriteOutcome) : (m.note reg v o).wf := by
  cases o
  · exact wf_writeWord h reg v
  · exact h

/-- The memory at reset has the canonical form. -/
theorem Memory.wf_reset : State.reset.written.wf := List.Pairwise.nil

/-- A read of one byte after a write of a word: its two bytes, low byte first, and every other byte as before. -/
theorem Memory.readByte_writeWord (m : Memory) (reg : RegAddr) (v : Word) (a : Nat) :
    (m.writeWord reg v).readByte a =
      if a = 2 * reg.toNat then some (lowByte v)
      else if a = 2 * reg.toNat + 1 then some (highByte v)
      else m.readByte a := by
  simp only [writeWord, readByte_writeByte]
  split <;> split <;> first | rfl | omega

/-- The bytes of a word, put together again, are the word. -/
theorem wordOfBytes_bytes (v : Word) : wordOfBytes (lowByte v) (highByte v) = v := by
  apply BitVec.eq_of_getLsbD_eq
  intro i hi
  simp only [wordOfBytes, lowByte, highByte, BitVec.getLsbD_or, BitVec.getLsbD_shiftLeft, BitVec.getLsbD_setWidth,
    BitVec.getLsbD_extractLsb']
  by_cases h : i < 8
  · simp [h, hi]
  · have h8 : i - 8 < 8 := by omega
    have h9 : 8 + (i - 8) = i := by omega
    simp [h, h8, h9, hi, show i - 8 < 16 by omega]

/-- A read of a register after a write of a register: the word written there, what was there before everywhere else. -/
theorem Memory.readWord_writeWord (m : Memory) (reg reg' : RegAddr) (v : Word) :
    (m.writeWord reg v).readWord reg' = if reg' = reg then some v else m.readWord reg' := by
  by_cases h : reg' = reg
  · subst h
    simp [readWord, readByte_writeWord, wordOfBytes_bytes]
  · have hn : reg'.toNat ≠ reg.toNat := fun he => h (BitVec.eq_of_toNat_eq he)
    have h1 : ¬ 2 * reg'.toNat = 2 * reg.toNat := by omega
    have h2 : ¬ 2 * reg'.toNat = 2 * reg.toNat + 1 := by omega
    have h3 : ¬ 2 * reg'.toNat + 1 = 2 * reg.toNat := by omega
    simp [readWord, readByte_writeWord, h, h1, h2, h3]

end Sys2Proof.Machine
end

