-- ==== Sys2Proof/Laws/State.lean ====
section
/-! SUPPORT. What each named update of the state does to each field: one lemma per field per update. -/

namespace Sys2Proof.Machine

/-! ### A word transaction's record -/

@[simp] theorem State.record_state (s : State) (e : BusEvent) (calls : List TxCall) : (s.record e calls).state = s.state := rfl
@[simp] theorem State.record_lens (s : State) (e : BusEvent) (calls : List TxCall) : (s.record e calls).lens = s.lens := rfl
@[simp] theorem State.record_slaveAddr (s : State) (e : BusEvent) (calls : List TxCall) : (s.record e calls).slaveAddr = s.slaveAddr := rfl
@[simp] theorem State.record_status (s : State) (e : BusEvent) (calls : List TxCall) : (s.record e calls).status = s.status := rfl
@[simp] theorem State.record_result (s : State) (e : BusEvent) (calls : List TxCall) : (s.record e calls).result = s.result := rfl
@[simp] theorem State.record_err (s : State) (e : BusEvent) (calls : List TxCall) : (s.record e calls).err = s.err := rfl
@[simp] theorem State.record_cur (s : State) (e : BusEvent) (calls : List TxCall) : (s.record e calls).cur = s.cur := rfl
@[simp] theorem State.record_stepIx (s : State) (e : BusEvent) (calls : List TxCall) : (s.record e calls).stepIx = s.stepIx := rfl
@[simp] theorem State.record_confW (s : State) (e : BusEvent) (calls : List TxCall) : (s.record e calls).confW = s.confW := rfl
@[simp] theorem State.record_count (s : State) (e : BusEvent) (calls : List TxCall) : (s.record e calls).count = s.count := rfl
@[simp] theorem State.record_whV (s : State) (e : BusEvent) (calls : List TxCall) : (s.record e calls).whV = s.whV := rfl
@[simp] theorem State.record_wlV (s : State) (e : BusEvent) (calls : List TxCall) : (s.record e calls).wlV = s.wlV := rfl
@[simp] theorem State.record_trace (s : State) (e : BusEvent) (calls : List TxCall) : (s.record e calls).trace = s.trace ++ [e] := rfl
@[simp] theorem State.record_wire (s : State) (e : BusEvent) (calls : List TxCall) : (s.record e calls).wire = s.wire ++ calls := rfl
@[simp] theorem State.record_written (s : State) (e : BusEvent) (calls : List TxCall) : (s.record e calls).written = s.written := rfl
@[simp] theorem State.record_script (s : State) (e : BusEvent) (calls : List TxCall) : (s.record e calls).script = s.script := rfl
@[simp] theorem State.record_tick (s : State) (e : BusEvent) (calls : List TxCall) : (s.record e calls).tick = s.tick := rfl
@[simp] theorem State.record_answers (s : State) (e : BusEvent) (calls : List TxCall) : (s.record e calls).answers = s.answers.tail := rfl
@[simp] theorem State.record_draws (s : State) (e : BusEvent) (calls : List TxCall) : (s.record e calls).draws = s.draws + 1 := rfl

/-! ### `MemRead` -/

@[simp] theorem State.afterRead_state (s : State) (reg : RegAddr) : (s.afterRead reg).state = s.state := rfl
@[simp] theorem State.afterRead_lens (s : State) (reg : RegAddr) : (s.afterRead reg).lens = s.lens := rfl
@[simp] theorem State.afterRead_slaveAddr (s : State) (reg : RegAddr) : (s.afterRead reg).slaveAddr = s.slaveAddr := rfl
@[simp] theorem State.afterRead_status (s : State) (reg : RegAddr) : (s.afterRead reg).status = s.status := rfl
@[simp] theorem State.afterRead_result (s : State) (reg : RegAddr) : (s.afterRead reg).result = s.result := rfl
@[simp] theorem State.afterRead_err (s : State) (reg : RegAddr) : (s.afterRead reg).err = s.err := rfl
@[simp] theorem State.afterRead_cur (s : State) (reg : RegAddr) : (s.afterRead reg).cur = s.cur := rfl
@[simp] theorem State.afterRead_stepIx (s : State) (reg : RegAddr) : (s.afterRead reg).stepIx = s.stepIx := rfl
@[simp] theorem State.afterRead_confW (s : State) (reg : RegAddr) : (s.afterRead reg).confW = s.confW := rfl
@[simp] theorem State.afterRead_count (s : State) (reg : RegAddr) : (s.afterRead reg).count = s.count := rfl
@[simp] theorem State.afterRead_whV (s : State) (reg : RegAddr) : (s.afterRead reg).whV = s.whV := rfl
@[simp] theorem State.afterRead_wlV (s : State) (reg : RegAddr) : (s.afterRead reg).wlV = s.wlV := rfl
@[simp] theorem State.afterRead_trace (s : State) (reg : RegAddr) : (s.afterRead reg).trace = s.trace ++ [.read reg (s.readOutcome reg)] := rfl
@[simp] theorem State.afterRead_wire (s : State) (reg : RegAddr) : (s.afterRead reg).wire = s.wire ++ (readTransaction Config.pollLimit s.slaveAddr reg s.answerNow).2 := rfl
@[simp] theorem State.afterRead_written (s : State) (reg : RegAddr) : (s.afterRead reg).written = s.written := rfl
@[simp] theorem State.afterRead_script (s : State) (reg : RegAddr) : (s.afterRead reg).script = s.script := rfl
@[simp] theorem State.afterRead_tick (s : State) (reg : RegAddr) : (s.afterRead reg).tick = s.tick := rfl
@[simp] theorem State.afterRead_answers (s : State) (reg : RegAddr) : (s.afterRead reg).answers = s.answers.tail := rfl
@[simp] theorem State.afterRead_draws (s : State) (reg : RegAddr) : (s.afterRead reg).draws = s.draws + 1 := rfl

/-! ### `MemWrite` -/

@[simp] theorem State.afterWrite_state (s : State) (reg : RegAddr) (v : Word) : (s.afterWrite reg v).state = s.state := rfl
@[simp] theorem State.afterWrite_lens (s : State) (reg : RegAddr) (v : Word) : (s.afterWrite reg v).lens = s.lens := rfl
@[simp] theorem State.afterWrite_slaveAddr (s : State) (reg : RegAddr) (v : Word) : (s.afterWrite reg v).slaveAddr = s.slaveAddr := rfl
@[simp] theorem State.afterWrite_status (s : State) (reg : RegAddr) (v : Word) : (s.afterWrite reg v).status = s.status := rfl
@[simp] theorem State.afterWrite_result (s : State) (reg : RegAddr) (v : Word) : (s.afterWrite reg v).result = s.result := rfl
@[simp] theorem State.afterWrite_err (s : State) (reg : RegAddr) (v : Word) : (s.afterWrite reg v).err = s.err := rfl
@[simp] theorem State.afterWrite_cur (s : State) (reg : RegAddr) (v : Word) : (s.afterWrite reg v).cur = s.cur := rfl
@[simp] theorem State.afterWrite_stepIx (s : State) (reg : RegAddr) (v : Word) : (s.afterWrite reg v).stepIx = s.stepIx := rfl
@[simp] theorem State.afterWrite_confW (s : State) (reg : RegAddr) (v : Word) : (s.afterWrite reg v).confW = s.confW := rfl
@[simp] theorem State.afterWrite_count (s : State) (reg : RegAddr) (v : Word) : (s.afterWrite reg v).count = s.count := rfl
@[simp] theorem State.afterWrite_whV (s : State) (reg : RegAddr) (v : Word) : (s.afterWrite reg v).whV = s.whV := rfl
@[simp] theorem State.afterWrite_wlV (s : State) (reg : RegAddr) (v : Word) : (s.afterWrite reg v).wlV = s.wlV := rfl
@[simp] theorem State.afterWrite_trace (s : State) (reg : RegAddr) (v : Word) : (s.afterWrite reg v).trace = s.trace ++ [.write reg v (s.writeOutcome reg v)] := rfl
@[simp] theorem State.afterWrite_wire (s : State) (reg : RegAddr) (v : Word) : (s.afterWrite reg v).wire = s.wire ++ (writeTransaction s.slaveAddr reg v s.answerNow).2 := rfl
@[simp] theorem State.afterWrite_written (s : State) (reg : RegAddr) (v : Word) : (s.afterWrite reg v).written = s.written.note reg v (s.writeOutcome reg v) := rfl
@[simp] theorem State.afterWrite_script (s : State) (reg : RegAddr) (v : Word) : (s.afterWrite reg v).script = s.script := rfl
@[simp] theorem State.afterWrite_tick (s : State) (reg : RegAddr) (v : Word) : (s.afterWrite reg v).tick = s.tick := rfl
@[simp] theorem State.afterWrite_answers (s : State) (reg : RegAddr) (v : Word) : (s.afterWrite reg v).answers = s.answers.tail := rfl
@[simp] theorem State.afterWrite_draws (s : State) (reg : RegAddr) (v : Word) : (s.afterWrite reg v).draws = s.draws + 1 := rfl

/-! ### `finish` -/

@[simp] theorem State.finish_state (s : State) (st : Status) (r : BitVec 64) (e : BitVec 16) : (s.finish st r e).state = s.state := rfl
@[simp] theorem State.finish_lens (s : State) (st : Status) (r : BitVec 64) (e : BitVec 16) : (s.finish st r e).lens = s.lens := rfl
@[simp] theorem State.finish_slaveAddr (s : State) (st : Status) (r : BitVec 64) (e : BitVec 16) : (s.finish st r e).slaveAddr = s.slaveAddr := rfl
@[simp] theorem State.finish_status (s : State) (st : Status) (r : BitVec 64) (e : BitVec 16) : (s.finish st r e).status = st := rfl
@[simp] theorem State.finish_result (s : State) (st : Status) (r : BitVec 64) (e : BitVec 16) : (s.finish st r e).result = r := rfl
@[simp] theorem State.finish_err (s : State) (st : Status) (r : BitVec 64) (e : BitVec 16) : (s.finish st r e).err = e := rfl
@[simp] theorem State.finish_cur (s : State) (st : Status) (r : BitVec 64) (e : BitVec 16) : (s.finish st r e).cur = s.cur := rfl
@[simp] theorem State.finish_stepIx (s : State) (st : Status) (r : BitVec 64) (e : BitVec 16) : (s.finish st r e).stepIx = s.stepIx := rfl
@[simp] theorem State.finish_confW (s : State) (st : Status) (r : BitVec 64) (e : BitVec 16) : (s.finish st r e).confW = s.confW := rfl
@[simp] theorem State.finish_count (s : State) (st : Status) (r : BitVec 64) (e : BitVec 16) : (s.finish st r e).count = s.count := rfl
@[simp] theorem State.finish_whV (s : State) (st : Status) (r : BitVec 64) (e : BitVec 16) : (s.finish st r e).whV = s.whV := rfl
@[simp] theorem State.finish_wlV (s : State) (st : Status) (r : BitVec 64) (e : BitVec 16) : (s.finish st r e).wlV = s.wlV := rfl
@[simp] theorem State.finish_trace (s : State) (st : Status) (r : BitVec 64) (e : BitVec 16) : (s.finish st r e).trace = s.trace := rfl
@[simp] theorem State.finish_wire (s : State) (st : Status) (r : BitVec 64) (e : BitVec 16) : (s.finish st r e).wire = s.wire := rfl
@[simp] theorem State.finish_written (s : State) (st : Status) (r : BitVec 64) (e : BitVec 16) : (s.finish st r e).written = s.written := rfl
@[simp] theorem State.finish_script (s : State) (st : Status) (r : BitVec 64) (e : BitVec 16) : (s.finish st r e).script = s.script := rfl
@[simp] theorem State.finish_tick (s : State) (st : Status) (r : BitVec 64) (e : BitVec 16) : (s.finish st r e).tick = s.tick := rfl
@[simp] theorem State.finish_answers (s : State) (st : Status) (r : BitVec 64) (e : BitVec 16) : (s.finish st r e).answers = s.answers := rfl
@[simp] theorem State.finish_draws (s : State) (st : Status) (r : BitVec 64) (e : BitVec 16) : (s.finish st r e).draws = s.draws := rfl

/-! ### `fail` -/

@[simp] theorem State.fail_state (s : State) (st : Status) (e : BitVec 16) : (s.fail st e).state = s.state := rfl
@[simp] theorem State.fail_lens (s : State) (st : Status) (e : BitVec 16) : (s.fail st e).lens = s.lens := rfl
@[simp] theorem State.fail_slaveAddr (s : State) (st : Status) (e : BitVec 16) : (s.fail st e).slaveAddr = s.slaveAddr := rfl
@[simp] theorem State.fail_status (s : State) (st : Status) (e : BitVec 16) : (s.fail st e).status = st := rfl
@[simp] theorem State.fail_result (s : State) (st : Status) (e : BitVec 16) : (s.fail st e).result = sentinel := rfl
@[simp] theorem State.fail_err (s : State) (st : Status) (e : BitVec 16) : (s.fail st e).err = e := rfl
@[simp] theorem State.fail_cur (s : State) (st : Status) (e : BitVec 16) : (s.fail st e).cur = s.cur := rfl
@[simp] theorem State.fail_stepIx (s : State) (st : Status) (e : BitVec 16) : (s.fail st e).stepIx = s.stepIx := rfl
@[simp] theorem State.fail_confW (s : State) (st : Status) (e : BitVec 16) : (s.fail st e).confW = s.confW := rfl
@[simp] theorem State.fail_count (s : State) (st : Status) (e : BitVec 16) : (s.fail st e).count = s.count := rfl
@[simp] theorem State.fail_whV (s : State) (st : Status) (e : BitVec 16) : (s.fail st e).whV = s.whV := rfl
@[simp] theorem State.fail_wlV (s : State) (st : Status) (e : BitVec 16) : (s.fail st e).wlV = s.wlV := rfl
@[simp] theorem State.fail_trace (s : State) (st : Status) (e : BitVec 16) : (s.fail st e).trace = s.trace := rfl
@[simp] theorem State.fail_wire (s : State) (st : Status) (e : BitVec 16) : (s.fail st e).wire = s.wire := rfl
@[simp] theorem State.fail_written (s : State) (st : Status) (e : BitVec 16) : (s.fail st e).written = s.written := rfl
@[simp] theorem State.fail_script (s : State) (st : Status) (e : BitVec 16) : (s.fail st e).script = s.script := rfl
@[simp] theorem State.fail_tick (s : State) (st : Status) (e : BitVec 16) : (s.fail st e).tick = s.tick := rfl
@[simp] theorem State.fail_answers (s : State) (st : Status) (e : BitVec 16) : (s.fail st e).answers = s.answers := rfl
@[simp] theorem State.fail_draws (s : State) (st : Status) (e : BitVec 16) : (s.fail st e).draws = s.draws := rfl

/-! ### `raise BusError` -/

@[simp] theorem State.raiseBusError_state (s : State) (c : Cause) (k : BitVec 4) (reg : RegAddr) : (s.raiseBusError c k reg).state = s.state := rfl
@[simp] theorem State.raiseBusError_lens (s : State) (c : Cause) (k : BitVec 4) (reg : RegAddr) : (s.raiseBusError c k reg).lens = s.lens := rfl
@[simp] theorem State.raiseBusError_slaveAddr (s : State) (c : Cause) (k : BitVec 4) (reg : RegAddr) : (s.raiseBusError c k reg).slaveAddr = s.slaveAddr := rfl
@[simp] theorem State.raiseBusError_status (s : State) (c : Cause) (k : BitVec 4) (reg : RegAddr) : (s.raiseBusError c k reg).status = .busError := rfl
@[simp] theorem State.raiseBusError_result (s : State) (c : Cause) (k : BitVec 4) (reg : RegAddr) : (s.raiseBusError c k reg).result = sentinel := rfl
@[simp] theorem State.raiseBusError_err (s : State) (c : Cause) (k : BitVec 4) (reg : RegAddr) : (s.raiseBusError c k reg).err = errWord c k reg := rfl
@[simp] theorem State.raiseBusError_cur (s : State) (c : Cause) (k : BitVec 4) (reg : RegAddr) : (s.raiseBusError c k reg).cur = s.cur := rfl
@[simp] theorem State.raiseBusError_stepIx (s : State) (c : Cause) (k : BitVec 4) (reg : RegAddr) : (s.raiseBusError c k reg).stepIx = s.stepIx := rfl
@[simp] theorem State.raiseBusError_confW (s : State) (c : Cause) (k : BitVec 4) (reg : RegAddr) : (s.raiseBusError c k reg).confW = s.confW := rfl
@[simp] theorem State.raiseBusError_count (s : State) (c : Cause) (k : BitVec 4) (reg : RegAddr) : (s.raiseBusError c k reg).count = s.count := rfl
@[simp] theorem State.raiseBusError_whV (s : State) (c : Cause) (k : BitVec 4) (reg : RegAddr) : (s.raiseBusError c k reg).whV = s.whV := rfl
@[simp] theorem State.raiseBusError_wlV (s : State) (c : Cause) (k : BitVec 4) (reg : RegAddr) : (s.raiseBusError c k reg).wlV = s.wlV := rfl
@[simp] theorem State.raiseBusError_trace (s : State) (c : Cause) (k : BitVec 4) (reg : RegAddr) : (s.raiseBusError c k reg).trace = s.trace := rfl
@[simp] theorem State.raiseBusError_wire (s : State) (c : Cause) (k : BitVec 4) (reg : RegAddr) : (s.raiseBusError c k reg).wire = s.wire := rfl
@[simp] theorem State.raiseBusError_written (s : State) (c : Cause) (k : BitVec 4) (reg : RegAddr) : (s.raiseBusError c k reg).written = s.written := rfl
@[simp] theorem State.raiseBusError_script (s : State) (c : Cause) (k : BitVec 4) (reg : RegAddr) : (s.raiseBusError c k reg).script = s.script := rfl
@[simp] theorem State.raiseBusError_tick (s : State) (c : Cause) (k : BitVec 4) (reg : RegAddr) : (s.raiseBusError c k reg).tick = s.tick := rfl
@[simp] theorem State.raiseBusError_answers (s : State) (c : Cause) (k : BitVec 4) (reg : RegAddr) : (s.raiseBusError c k reg).answers = s.answers := rfl
@[simp] theorem State.raiseBusError_draws (s : State) (c : Cause) (k : BitVec 4) (reg : RegAddr) : (s.raiseBusError c k reg).draws = s.draws := rfl

/-! ### The completion of an ILLEGAL command -/

@[simp] theorem State.failIllegal_state (s : State) : s.failIllegal.state = s.state := rfl
@[simp] theorem State.failIllegal_lens (s : State) : s.failIllegal.lens = s.lens := rfl
@[simp] theorem State.failIllegal_slaveAddr (s : State) : s.failIllegal.slaveAddr = s.slaveAddr := rfl
@[simp] theorem State.failIllegal_status (s : State) : s.failIllegal.status = .illegalCommand := rfl
@[simp] theorem State.failIllegal_result (s : State) : s.failIllegal.result = sentinel := rfl
@[simp] theorem State.failIllegal_err (s : State) : s.failIllegal.err = 0 := rfl
@[simp] theorem State.failIllegal_cur (s : State) : s.failIllegal.cur = s.cur := rfl
@[simp] theorem State.failIllegal_stepIx (s : State) : s.failIllegal.stepIx = s.stepIx := rfl
@[simp] theorem State.failIllegal_confW (s : State) : s.failIllegal.confW = s.confW := rfl
@[simp] theorem State.failIllegal_count (s : State) : s.failIllegal.count = s.count := rfl
@[simp] theorem State.failIllegal_whV (s : State) : s.failIllegal.whV = s.whV := rfl
@[simp] theorem State.failIllegal_wlV (s : State) : s.failIllegal.wlV = s.wlV := rfl
@[simp] theorem State.failIllegal_trace (s : State) : s.failIllegal.trace = s.trace := rfl
@[simp] theorem State.failIllegal_wire (s : State) : s.failIllegal.wire = s.wire := rfl
@[simp] theorem State.failIllegal_written (s : State) : s.failIllegal.written = s.written := rfl
@[simp] theorem State.failIllegal_script (s : State) : s.failIllegal.script = s.script := rfl
@[simp] theorem State.failIllegal_tick (s : State) : s.failIllegal.tick = s.tick := rfl
@[simp] theorem State.failIllegal_answers (s : State) : s.failIllegal.answers = s.answers := rfl
@[simp] theorem State.failIllegal_draws (s : State) : s.failIllegal.draws = s.draws := rfl

/-! ### Going to a transaction -/

@[simp] theorem State.goto_state (s : State) (k : BitVec 3) : (s.goto k).state = s.state := rfl
@[simp] theorem State.goto_lens (s : State) (k : BitVec 3) : (s.goto k).lens = s.lens := rfl
@[simp] theorem State.goto_slaveAddr (s : State) (k : BitVec 3) : (s.goto k).slaveAddr = s.slaveAddr := rfl
@[simp] theorem State.goto_status (s : State) (k : BitVec 3) : (s.goto k).status = s.status := rfl
@[simp] theorem State.goto_result (s : State) (k : BitVec 3) : (s.goto k).result = s.result := rfl
@[simp] theorem State.goto_err (s : State) (k : BitVec 3) : (s.goto k).err = s.err := rfl
@[simp] theorem State.goto_cur (s : State) (k : BitVec 3) : (s.goto k).cur = s.cur := rfl
@[simp] theorem State.goto_stepIx (s : State) (k : BitVec 3) : (s.goto k).stepIx = k := rfl
@[simp] theorem State.goto_confW (s : State) (k : BitVec 3) : (s.goto k).confW = s.confW := rfl
@[simp] theorem State.goto_count (s : State) (k : BitVec 3) : (s.goto k).count = s.count := rfl
@[simp] theorem State.goto_whV (s : State) (k : BitVec 3) : (s.goto k).whV = s.whV := rfl
@[simp] theorem State.goto_wlV (s : State) (k : BitVec 3) : (s.goto k).wlV = s.wlV := rfl
@[simp] theorem State.goto_trace (s : State) (k : BitVec 3) : (s.goto k).trace = s.trace := rfl
@[simp] theorem State.goto_wire (s : State) (k : BitVec 3) : (s.goto k).wire = s.wire := rfl
@[simp] theorem State.goto_written (s : State) (k : BitVec 3) : (s.goto k).written = s.written := rfl
@[simp] theorem State.goto_script (s : State) (k : BitVec 3) : (s.goto k).script = s.script := rfl
@[simp] theorem State.goto_tick (s : State) (k : BitVec 3) : (s.goto k).tick = s.tick := rfl
@[simp] theorem State.goto_answers (s : State) (k : BitVec 3) : (s.goto k).answers = s.answers := rfl
@[simp] theorem State.goto_draws (s : State) (k : BitVec 3) : (s.goto k).draws = s.draws := rfl

/-! ### Command acceptance -/

@[simp] theorem State.accept_state (s : State) (w : CmdWord) : (s.accept w).state = if decode w = some .begin then .probing else s.state := rfl
@[simp] theorem State.accept_lens (s : State) (w : CmdWord) : (s.accept w).lens = s.lens := rfl
@[simp] theorem State.accept_slaveAddr (s : State) (w : CmdWord) : (s.accept w).slaveAddr = s.slaveAddr := rfl
@[simp] theorem State.accept_status (s : State) (w : CmdWord) : (s.accept w).status = .running := rfl
@[simp] theorem State.accept_result (s : State) (w : CmdWord) : (s.accept w).result = s.result := rfl
@[simp] theorem State.accept_err (s : State) (w : CmdWord) : (s.accept w).err = s.err := rfl
@[simp] theorem State.accept_cur (s : State) (w : CmdWord) : (s.accept w).cur = decode w := rfl
@[simp] theorem State.accept_stepIx (s : State) (w : CmdWord) : (s.accept w).stepIx = 0 := rfl
@[simp] theorem State.accept_confW (s : State) (w : CmdWord) : (s.accept w).confW = s.confW := rfl
@[simp] theorem State.accept_count (s : State) (w : CmdWord) : (s.accept w).count = s.count := rfl
@[simp] theorem State.accept_whV (s : State) (w : CmdWord) : (s.accept w).whV = s.whV := rfl
@[simp] theorem State.accept_wlV (s : State) (w : CmdWord) : (s.accept w).wlV = s.wlV := rfl
@[simp] theorem State.accept_trace (s : State) (w : CmdWord) : (s.accept w).trace = s.trace := rfl
@[simp] theorem State.accept_wire (s : State) (w : CmdWord) : (s.accept w).wire = s.wire := rfl
@[simp] theorem State.accept_written (s : State) (w : CmdWord) : (s.accept w).written = s.written := rfl
@[simp] theorem State.accept_script (s : State) (w : CmdWord) : (s.accept w).script = s.script := rfl
@[simp] theorem State.accept_tick (s : State) (w : CmdWord) : (s.accept w).tick = s.tick := rfl
@[simp] theorem State.accept_answers (s : State) (w : CmdWord) : (s.accept w).answers = s.answers := rfl
@[simp] theorem State.accept_draws (s : State) (w : CmdWord) : (s.accept w).draws = s.draws := rfl

/-! ### The use of a step's inputs -/

@[simp] theorem State.advance_state (s : State) : s.advance.state = s.state := rfl
@[simp] theorem State.advance_lens (s : State) : s.advance.lens = s.lens := rfl
@[simp] theorem State.advance_slaveAddr (s : State) : s.advance.slaveAddr = s.slaveAddr := rfl
@[simp] theorem State.advance_status (s : State) : s.advance.status = s.status := rfl
@[simp] theorem State.advance_result (s : State) : s.advance.result = s.result := rfl
@[simp] theorem State.advance_err (s : State) : s.advance.err = s.err := rfl
@[simp] theorem State.advance_cur (s : State) : s.advance.cur = s.cur := rfl
@[simp] theorem State.advance_stepIx (s : State) : s.advance.stepIx = s.stepIx := rfl
@[simp] theorem State.advance_confW (s : State) : s.advance.confW = s.confW := rfl
@[simp] theorem State.advance_count (s : State) : s.advance.count = s.count := rfl
@[simp] theorem State.advance_whV (s : State) : s.advance.whV = s.whV := rfl
@[simp] theorem State.advance_wlV (s : State) : s.advance.wlV = s.wlV := rfl
@[simp] theorem State.advance_trace (s : State) : s.advance.trace = s.trace := rfl
@[simp] theorem State.advance_wire (s : State) : s.advance.wire = s.wire := rfl
@[simp] theorem State.advance_written (s : State) : s.advance.written = s.written := rfl
@[simp] theorem State.advance_script (s : State) : s.advance.script = s.script.tail := rfl
@[simp] theorem State.advance_tick (s : State) : s.advance.tick = s.tick + 1 := rfl
@[simp] theorem State.advance_answers (s : State) : s.advance.answers = s.answers := rfl
@[simp] theorem State.advance_draws (s : State) : s.advance.draws = s.draws := rfl

/-! ### The reset input -/

@[simp] theorem State.resetBlock_state (s : State) : s.resetBlock.state = .uninit := rfl
@[simp] theorem State.resetBlock_lens (s : State) : s.resetBlock.lens = lensOne := rfl
@[simp] theorem State.resetBlock_slaveAddr (s : State) : s.resetBlock.slaveAddr = 0x29 := rfl
@[simp] theorem State.resetBlock_status (s : State) : s.resetBlock.status = .none := rfl
@[simp] theorem State.resetBlock_result (s : State) : s.resetBlock.result = 0 := rfl
@[simp] theorem State.resetBlock_err (s : State) : s.resetBlock.err = 0 := rfl
@[simp] theorem State.resetBlock_cur (s : State) : s.resetBlock.cur = none := rfl
@[simp] theorem State.resetBlock_stepIx (s : State) : s.resetBlock.stepIx = 0 := rfl
@[simp] theorem State.resetBlock_confW (s : State) : s.resetBlock.confW = 0 := rfl
@[simp] theorem State.resetBlock_count (s : State) : s.resetBlock.count = 0 := rfl
@[simp] theorem State.resetBlock_whV (s : State) : s.resetBlock.whV = 0 := rfl
@[simp] theorem State.resetBlock_wlV (s : State) : s.resetBlock.wlV = 0 := rfl
@[simp] theorem State.resetBlock_trace (s : State) : s.resetBlock.trace = [] := rfl
@[simp] theorem State.resetBlock_wire (s : State) : s.resetBlock.wire = [] := rfl
@[simp] theorem State.resetBlock_written (s : State) : s.resetBlock.written = s.written := rfl
@[simp] theorem State.resetBlock_script (s : State) : s.resetBlock.script = s.script := rfl
@[simp] theorem State.resetBlock_tick (s : State) : s.resetBlock.tick = s.tick := rfl
@[simp] theorem State.resetBlock_answers (s : State) : s.resetBlock.answers = s.answers := rfl
@[simp] theorem State.resetBlock_draws (s : State) : s.resetBlock.draws = s.draws := rfl

end Sys2Proof.Machine
end

