-- ==== Sys2Proof/Laws/Ops.lean ====
section
/-! SUPPORT. For each shared operation, one lemma that says once everything it can do. -/

namespace Sys2Proof.Machine

/-! ## The poll and the transactions -/

/-- The poll either finds two bytes at a check after only failed ones, or fails every check it has. -/
theorem pollReady_cases (a : BusAnswer) (n i : Nat) :
    (∃ k, k < n ∧ (∀ j < k, availableAt a (i + j) < 2) ∧ 2 ≤ availableAt a (i + k) ∧
        pollReady a n i = (true, i + k + 1)) ∨
      ((∀ j < n, availableAt a (i + j) < 2) ∧ pollReady a n i = (false, i + n)) := by
  induction n generalizing i with
  | zero => exact .inr ⟨by simp, rfl⟩
  | succ n ih =>
    by_cases h : 2 ≤ availableAt a i
    · exact .inl ⟨0, by omega, by simp, by simpa using h, by simp [pollReady, h]⟩
    · have hlt : availableAt a i < 2 := by omega
      rcases ih (i + 1) with ⟨k, hk, hall, hav, he⟩ | ⟨hall, he⟩
      · refine .inl ⟨k + 1, by omega, ?_, ?_, ?_⟩
        · intro j hj
          cases j with
          | zero => simpa using hlt
          | succ j => simpa [Nat.add_assoc, Nat.add_comm 1] using hall j (by omega)
        · simpa [Nat.add_assoc, Nat.add_comm 1] using hav
        · simp [pollReady, h, he]; omega
      · refine .inr ⟨?_, ?_⟩
        · intro j hj
          cases j with
          | zero => simpa using hlt
          | succ j => simpa [Nat.add_assoc, Nat.add_comm 1] using hall j (by omega)
        · simp [pollReady, h, he]; omega

/-- A read transaction ends in one of its five ways (spec 40_transport.md R122). -/
theorem readTransaction_cases (limit : Nat) (slave : BusAddr) (reg : RegAddr) (a : BusAnswer) :
    ((a.ackAddr && a.ack0) = false ∧
        readTransaction limit slave reg a = (.err .addrPhase, [.txWrite slave [reg] false])) ∨
      ((a.ackAddr && a.ack0) = true ∧ a.request = none ∧
        readTransaction limit slave reg a =
          (.err .readPhase, [.txWrite slave [reg] false, .txRequest slave 2])) ∨
      ((a.ackAddr && a.ack0) = true ∧ (∃ k, a.request = some k ∧ k ≠ 2) ∧
        readTransaction limit slave reg a =
          (.err .byteCount, [.txWrite slave [reg] false, .txRequest slave 2])) ∨
      ((a.ackAddr && a.ack0) = true ∧ a.request = some 2 ∧ (∀ j < limit, availableAt a j < 2) ∧
        readTransaction limit slave reg a =
          (.err .notReady,
            [.txWrite slave [reg] false, .txRequest slave 2] ++ List.replicate limit .txAvailable)) ∨
      ((a.ackAddr && a.ack0) = true ∧ a.request = some 2 ∧
        ∃ k < limit, (∀ j < k, availableAt a j < 2) ∧ 2 ≤ availableAt a k ∧
          readTransaction limit slave reg a =
            (.ok (wordOfBytes a.byte0 a.byte1),
              [.txWrite slave [reg] false, .txRequest slave 2] ++ List.replicate (k + 1) .txAvailable ++
                [.txReadByte, .txReadByte])) := by
  cases hack : (a.ackAddr && a.ack0) with
  | false => exact .inl ⟨rfl, by simp [readTransaction, hack]⟩
  | true =>
    refine .inr ?_
    cases hreq : a.request with
    | none => exact .inl ⟨rfl, rfl, by simp [readTransaction, hack, hreq]⟩
    | some k =>
      refine .inr ?_
      by_cases hk : k = 2
      · subst hk
        refine .inr ?_
        rcases pollReady_cases a limit 0 with ⟨k, hk, hall, hav, he⟩ | ⟨hall, he⟩
        · simp only [Nat.zero_add] at hall hav he
          exact .inr ⟨rfl, rfl, k, hk, hall, hav, by simp [readTransaction, hack, hreq, he]⟩
        · simp only [Nat.zero_add] at hall he
          exact .inl ⟨rfl, rfl, hall, by simp [readTransaction, hack, hreq, he]⟩
      · exact .inl ⟨rfl, ⟨k, rfl, hk⟩, by simp [readTransaction, hack, hreq, hk]⟩

/-- Every call of a read transaction that names an address names the slave's. -/
theorem readTransaction_addresses (limit : Nat) (slave : BusAddr) (reg : RegAddr) (a : BusAnswer) (c : TxCall)
    (h : c ∈ (readTransaction limit slave reg a).2) :
    c = .txWrite slave [reg] false ∨ c = .txRequest slave 2 ∨ c = .txAvailable ∨ c = .txReadByte := by
  rcases readTransaction_cases limit slave reg a with ⟨-, he⟩ | ⟨-, -, he⟩ | ⟨-, -, he⟩ | ⟨-, -, -, he⟩ |
      ⟨-, -, k, -, -, -, he⟩ <;>
    rw [he] at h <;> simp at h <;> tauto

/-- A write transaction's outcome: "fails if any … is not acknowledged" (spec 40_transport.md R124, D21). -/
theorem writeTransaction_outcome (slave : BusAddr) (reg : RegAddr) (v : Word) (a : BusAnswer) :
    (writeTransaction slave reg v a).1 = .ok ↔ a.ackAddr ∧ a.ack0 ∧ a.ack1 ∧ a.ack2 := by
  simp only [writeTransaction]
  split <;> simp_all

/-- What a write leaves in every byte of the device register space. -/
theorem Memory.readByte_note (m : Memory) (reg : RegAddr) (v : Word) (o : WriteOutcome) (a : Nat)
    (h : a ≠ 2 * reg.toNat ∧ a ≠ 2 * reg.toNat + 1) : (m.note reg v o).readByte a = m.readByte a := by
  cases o
  · simp [note, readByte_writeWord, h.1, h.2]
  · rfl

/-! ## Parts of commands -/

/-- A single-read command either fails with the transaction's cause or finishes with the word's value. -/
theorem readThenFinish_cases (reg : RegAddr) (value : Word → BitVec 64) (s : State) :
    (∃ c, s.readOutcome reg = .err c ∧
        readThenFinish reg value s = (s.afterRead reg).raiseBusError c.cause 0 reg) ∨
      ∃ w, s.readOutcome reg = .ok w ∧ readThenFinish reg value s = (s.afterRead reg).finish .ok (value w) 0 := by
  unfold readThenFinish
  cases s.readOutcome reg with
  | ok w => exact .inr ⟨w, rfl, rfl⟩
  | err c => exact .inl ⟨c, rfl, rfl⟩

/-- The read half of the RMW either fails or keeps the word read in CONF_W. -/
theorem rmwRead_cases (onFail : ReadCause → State → State) (k : BitVec 3) (s : State) :
    (∃ c, s.readOutcome Reg.alsConf = .err c ∧ rmwRead onFail k s = onFail c (s.afterRead Reg.alsConf)) ∨
      ∃ w, s.readOutcome Reg.alsConf = .ok w ∧
        rmwRead onFail k s = { (s.afterRead Reg.alsConf).goto (k + 1) with confW := w } := by
  unfold rmwRead
  cases s.readOutcome Reg.alsConf with
  | ok w => exact .inr ⟨w, rfl, rfl⟩
  | err c => exact .inl ⟨c, rfl, rfl⟩

/-- A meaning gives a next state or, where STEP is not one of the command's transactions, the fault of that name. -/
theorem exec_next_or_fault (i : Instr) (s : State) :
    (∃ t, exec i s = .next t) ∨ exec i s = .fault .stepOutOfRange := by
  cases i <;>
    simp only [exec, execBegin, execReadWord, execWriteWord, execReadAls, execGetLux, execSetIntEn, execArmThreshold,
      execReadClearFlags, execGetLens, execSetLens, execRelease] <;>
    first
      | exact .inl ⟨_, rfl⟩
      | (split <;> first | exact .inl ⟨_, rfl⟩ | exact .inr rfl)

/-- One step of a busy block without a reset: the micro-step, with the step's inputs used up. -/
theorem step_busy (s : State) (hr : s.portNow.rst = false) (hb : s.status = .running) :
    step s = thenAdvance (runCur s) := by
  simp [step, hr, State.busy, hb]

end Sys2Proof.Machine
end

