-- ==== Sys2Proof/Laws/PerInstr.lean ====
section
/-! SUPPORT. The statement families made per command. -/

namespace Sys2Proof.Laws

/-- The command's word lies in its row of the opcode table: its bits under the row's mask are the row's match
(spec 30_encoding.md R93). -/
def EncodesInRow.Statement (i : Instr) : Prop := encode i &&& tableMask i = tableMatch i

/-- Two concatenations of the same widths meet part by part. -/
theorem append_and_append {m n : Nat} (x x' : BitVec m) (y y' : BitVec n) :
    (x ++ y) &&& (x' ++ y') = (x &&& x') ++ (y &&& y') := by
  ext i hi
  simp only [BitVec.getElem_and, BitVec.getElem_append]
  split <;> simp

/-- Two command words meet field by field. -/
theorem pack_and (op op' rsv rsv' : BitVec 4) (reg reg' : RegAddr) (data data' : Word) (arg arg' : BitVec 32) :
    CmdWord.pack op rsv reg data arg &&& CmdWord.pack op' rsv' reg' data' arg' =
      CmdWord.pack (op &&& op') (rsv &&& rsv') (reg &&& reg') (data &&& data') (arg &&& arg') := by
  refine (append_and_append (arg ++ data ++ reg ++ rsv) (arg' ++ data' ++ reg' ++ rsv') op op').trans ?_
  rw [append_and_append, append_and_append, append_and_append]
  rfl

theorem EncodesInRow.begin : EncodesInRow.Statement .begin := by unfold Statement; decide
theorem EncodesInRow.readAls : EncodesInRow.Statement .readAls := by unfold Statement; decide
theorem EncodesInRow.getLux : EncodesInRow.Statement .getLux := by unfold Statement; decide
theorem EncodesInRow.readClearFlags : EncodesInRow.Statement .readClearFlags := by unfold Statement; decide
theorem EncodesInRow.getLens : EncodesInRow.Statement .getLens := by unfold Statement; decide
theorem EncodesInRow.release : EncodesInRow.Statement .release := by unfold Statement; decide

theorem EncodesInRow.readWord (reg : RegAddr) : EncodesInRow.Statement (.readWord reg) := by
  have hm : tableMask (.readWord reg) = CmdWord.pack 0xF 0xF 0 0xFFFF 0xFFFFFFFF := rfl
  simp only [Statement, hm, encode, pack_and, BitVec.ofNat_eq_ofNat, BitVec.and_zero]
  rfl

theorem EncodesInRow.writeWord (reg : RegAddr) (v : Word) : EncodesInRow.Statement (.writeWord reg v) := by
  have hm : tableMask (.writeWord reg v) = CmdWord.pack 0xF 0xF 0 0 0xFFFFFFFF := rfl
  simp only [Statement, hm, encode, pack_and, BitVec.ofNat_eq_ofNat, BitVec.and_zero]
  rfl

theorem EncodesInRow.setIntEn (en : BitVec 1) : EncodesInRow.Statement (.setIntEn en) := by
  revert en
  unfold Statement
  decide

theorem EncodesInRow.armThreshold (p : Int) : EncodesInRow.Statement (.armThreshold p) := by
  have hm : tableMask (.armThreshold p) = CmdWord.pack 0xF 0xF 0xFF 0 0xFFFFFFFF := rfl
  simp only [Statement, hm, encode, pack_and, BitVec.ofNat_eq_ofNat, BitVec.and_zero]
  rfl

theorem EncodesInRow.setLens (v : Lens) : EncodesInRow.Statement (.setLens v) := by
  have hm : tableMask (.setLens v) = CmdWord.pack 0xF 0xF 0xFF 0xFFFF 0 := rfl
  simp only [Statement, hm, encode, pack_and, BitVec.ofNat_eq_ofNat, BitVec.and_zero]
  rfl

end Sys2Proof.Laws
end

