-- ==== Sys2Proof/Tests/Slice0.lean ====
section
/-! SUPPORT. The model's own tests: expected values are the spec's worked examples and vectors (95_test_vectors.md). -/

namespace Sys2Proof.Tests

open Sys2Proof Sys2Proof.Machine

/-! ## WellFormed refuses what the encoding cannot express -/

theorem test_wf_refuses_large_percentage : ¬ (Instr.armThreshold 32768).WellFormed := by decide
theorem test_wf_refuses_small_percentage : ¬ (Instr.armThreshold (-32769)).WellFormed := by decide
theorem test_wf_accepts_the_ends :
    (Instr.armThreshold 32767).WellFormed ∧ (Instr.armThreshold (-32768)).WellFormed := by decide

/-! ## Decoding, from the words of R99 and the vectors E1 to E14 -/

theorem test_decode_begin : decode 0x0000000000000001 = some .begin := by decide
theorem test_decode_read_word : decode 0x0000000000000702 = some (.readWord 0x07) := by decide
theorem test_decode_write_word : decode 0x0000000012340103 = some (.writeWord 0x01 0x1234) := by decide
theorem test_decode_write_read_only : decode 0x00000000FFFF0703 = some (.writeWord 0x07 0xFFFF) := by decide
theorem test_decode_read_als : decode 0x0000000000000004 = some .readAls := by decide
theorem test_decode_get_lux : decode 0x0000000000000005 = some .getLux := by decide
theorem test_decode_set_int_en : decode 0x0000000000010006 = some (.setIntEn 1) := by decide
theorem test_decode_arm : decode 0x00000000000A0007 = some (.armThreshold 10) := by decide
theorem test_decode_arm_negative : decode 0x00000000FFFB0007 = some (.armThreshold (-5)) := by decide
theorem test_decode_arm_lowest : decode 0x0000000080000007 = some (.armThreshold (-32768)) := by decide
theorem test_decode_read_clear_flags : decode 0x0000000000000008 = some .readClearFlags := by decide
theorem test_decode_get_lens : decode 0x0000000000000009 = some .getLens := by decide
theorem test_decode_set_lens : decode 0xFFFFFFFF0000000A = some (.setLens 0xFFFFFFFF) := by decide
theorem test_decode_release : decode 0x000000000000000B = some .release := by decide

theorem test_decode_refuses :
    [0x0, 0xC, 0xF, 0x11, 0x101, 0x10002, 0x100000003, 0x20006, 0x10A, 0xFFFFFFFF0000FF03].map
      (fun w => decode (BitVec.ofNat 64 w)) = List.replicate 10 none := by decide

theorem test_table_word : decodeTableWord 64 0x12340103 = some (.writeWord 0x01 0x1234) := by decide

/-! ## The assembler (R97, R98) -/

theorem test_assemble_name : assembleLine "READ_WORD ID".toList = some (.readWord 0x07) := by decide
theorem test_assemble_pseudo : assembleLine "WRITE_WH 1100".toList = some (.writeWord 0x01 0x044C) := by decide
theorem test_assemble_refuses_too_large : assembleLine "WRITE_WORD WH, 0x10000".toList = none := by decide
theorem test_assemble_refuses_percentage : assembleLine "ARM_THRESHOLD 32768".toList = none := by decide

/-! ## Byte order and transactions (vectors T1 to T13, with POLL_LIMIT = 3) -/

/-- Every byte acknowledged, two bytes ready at the first check, the word `w`. -/
def answer (w : Word) : BusAnswer :=
  { ackAddr := true, ack0 := true, ack1 := true, ack2 := true, request := some 2, avail := [], availRest := 2,
    byte0 := lowByte w, byte1 := highByte w }

/-- The address byte is not acknowledged. -/
def silent : BusAnswer := { answer 0 with ackAddr := false }

theorem test_T1_first_byte_is_low :
    readTransaction 3 0x29 0x07 { answer 0 with byte0 := 0x83, byte1 := 0x00 } =
      (.ok 0x0083, [.txWrite 0x29 [0x07] false, .txRequest 0x29 2, .txAvailable, .txReadByte, .txReadByte]) := by decide
theorem test_T3_register_nack :
    (readTransaction 3 0x29 0x04 { answer 0 with ack0 := false }).1 = .err .addrPhase := by decide
theorem test_T4_read_phase : (readTransaction 3 0x29 0x04 { answer 0 with request := none }).1 = .err .readPhase := by
  decide
theorem test_T6_byte_count : (readTransaction 3 0x29 0x04 { answer 0 with request := some 3 }).1 = .err .byteCount := by
  decide
theorem test_T7_third_check :
    readTransaction 3 0x29 0x04 { answer 0x03E8 with avail := [0, 0, 2] } =
      (.ok 0x03E8, [.txWrite 0x29 [0x04] false, .txRequest 0x29 2, .txAvailable, .txAvailable, .txAvailable,
        .txReadByte, .txReadByte]) := by decide
theorem test_T8_not_ready :
    readTransaction 3 0x29 0x04 { answer 0 with avail := [0, 1, 1] } =
      (.err .notReady, [.txWrite 0x29 [0x04] false, .txRequest 0x29 2, .txAvailable, .txAvailable, .txAvailable]) := by
  decide
theorem test_T9_one_check : (readTransaction 1 0x29 0x04 { answer 0 with avail := [1] }).1 = .err .notReady := by decide
theorem test_T10_write_bytes :
    writeTransaction 0x29 0x01 0x1234 (answer 0) = (.ok, [.txWrite 0x29 [0x01, 0x34, 0x12] true]) := by decide
theorem test_T11_address_nack : (writeTransaction 0x29 0x01 0x1234 silent).1 = .nack := by decide
theorem test_T12_high_byte_nack :
    (writeTransaction 0x29 0x01 0x1234 { answer 0 with ack2 := false }).1 = .nack := by decide
theorem test_write_nack : (writeTransaction 0x29 0x01 0x1234 { answer 0 with ack1 := false }).1 = .nack := by decide

/-! ## The converter (vectors C1, C6, C7, C12, C22) and the window (W3 to W6, W13, W15, W18) -/

theorem test_C1_source_example : convert 0x0800 1000 0x00010000 = 0x3E800000 := by decide
theorem test_C6_maximum : convert 0x1300 65535 0xFFFFFFFF = 0x3FFFBFFFC000400 := by decide
theorem test_C7_minimum : convert 0x0CC0 1 0x00010000 = 0x10000 := by decide
theorem test_C12_unnamed_bits : convert 0xFFFF 65535 0x00010000 = 0xFFFF000000 := by decide
theorem test_C22_gain_and_sens : convert 0x1400 1000 0x00010000 = 0x1F4000000 := by decide

theorem test_W3_increment : window 10 1 = (11, 9) := by decide +kernel
theorem test_W5_no_increment : window 50 1 = (50, 49) := by decide +kernel
theorem test_W6_high_clamp : window 65535 10 = (65535, 58981) := by decide +kernel
theorem test_W13_floors : window 333 3 = (342, 323) := by decide +kernel
theorem test_W15_gap_of_one : window 1 50 = (1, 0) := by decide +kernel
theorem test_W18_count_zero : window 0 32767 = (1, 0) := by decide +kernel

/-! ## One step of each command -/

/-- A block running `i` at its transaction `k`, with the environment's answers to come and a quiet host. -/
def running (i : Instr) (k : BitVec 3) (as : List BusAnswer) : State :=
  { State.reset with
    status := .running, cur := some i, stepIx := k, answers := as, script := List.replicate 8 quietPort
    state := if i = .begin then .probing else .uninit }

/-- What a step shows of its next state: STATUS, RESULT, ERR and the trace. -/
def shown : Host.Outcome State Fault Refusal → Option (Status × BitVec 64 × BitVec 16 × List BusEvent)
  | .next t => some (t.status, t.result, t.err, t.trace)
  | .fault _ => none
  | .refused _ => none

/-- A view of a step's next state. -/
def view {α : Type} (f : State → α) : Host.Outcome State Fault Refusal → Option α
  | .next t => some (f t)
  | .fault _ => none
  | .refused _ => none

-- X1
theorem test_read_word : shown (step (running (.readWord 0x07) 0 [answer 0x0083])) =
    some (.ok, 0x83, 0, [.read 0x07 (.ok 0x0083)]) := by decide
-- X6
theorem test_read_word_fails : shown (step (running (.readWord 0x12) 0 [silent])) =
    some (.busError, sentinel, 0x1202, [.read 0x12 (.err .addrPhase)]) := by decide
-- X4
theorem test_write_word : shown (step (running (.writeWord 0x01 0x1234) 0 [answer 0])) =
    some (.ok, 0, 0, [.write 0x01 0x1234 .ok]) := by decide
-- X3
theorem test_write_word_fails : shown (step (running (.writeWord 0x12 0xBEEF) 0 [silent])) =
    some (.busError, sentinel, 0x1201, [.write 0x12 0xBEEF .nack]) := by decide
-- X5
theorem test_read_als : shown (step (running .readAls 0 [answer 0xFFFF])) =
    some (.ok, 0xFFFF, 0, [.read 0x04 (.ok 0xFFFF)]) := by decide
-- X8, the second read
theorem test_get_lux : shown (step { running .getLux 1 [answer 1000] with confW := 0x0800 }) =
    some (.ok, 0x3E800000, 0, [.read 0x04 (.ok 1000)]) := by decide
-- X7
theorem test_get_lux_fails : shown (step (running .getLux 1 [{ answer 0 with request := some 3 }])) =
    some (.busError, sentinel, 0x0414, [.read 0x04 (.err .byteCount)]) := by decide
-- X10
theorem test_set_int_en : shown (step { running (.setIntEn 0) 1 [answer 0] with confW := 0xFFFF }) =
    some (.ok, 0, 0, [.write 0x00 0xFFFD .ok]) := by decide
-- X12
theorem test_set_int_en_fails : shown (step { running (.setIntEn 1) 1 [silent] with confW := 0x1000 }) =
    some (.busError, sentinel, 0x0011, [.write 0x00 0x1002 .nack]) := by decide
-- A16
theorem test_arm_refuses_argument : shown (step (running (.armThreshold (-5)) 0 [])) =
    some (.invalidArgument, sentinel, 0, []) := by decide
-- X13, the last write
theorem test_arm_ends :
    shown (step { running (.armThreshold 10) 6 [answer 0] with confW := 0x1000, whV := 1100, wlV := 900 }) =
      some (.ok, 0x044C0384, 0, [.write 0x00 0x1002 .ok]) := by decide
-- F5, F3
theorem test_flags_ignore_low_bits : shown (step (running .readClearFlags 0 [answer 0x3FFF])) =
    some (.ok, 0, 0, [.read 0x06 (.ok 0x3FFF)]) := by decide
theorem test_flags_bit_fifteen : shown (step (running .readClearFlags 0 [answer 0x8000])) =
    some (.ok, 1, 0, [.read 0x06 (.ok 0x8000)]) := by decide
-- X19
theorem test_get_lens : shown (step (running .getLens 0 [])) = some (.ok, 0x00010000, 0, []) := by decide
theorem test_set_lens : view State.lens (step (running (.setLens 0x00008000) 0 [])) = some 0x00008000 := by decide
-- P2
theorem test_begin_mismatch : shown (step (running .begin 2 [answer 0x0181])) =
    some (.identityMismatch, sentinel, 0x0726, [.read 0x07 (.ok 0x0181)]) := by decide
-- X24: the last write, not acknowledged
theorem test_begin_ends :
    view (fun t => (t.status, t.state, t.lens, t.trace)) (step { running .begin 6 [silent] with lens := 5 }) =
      some (.ok, .configured, 0x00010000, [.write 0x03 0x0000 .nack]) := by decide
-- X21
theorem test_release_read_fails : shown (step (running .release 0 [silent])) =
    some (.ok, 0, 0, [.read 0x00 (.err .addrPhase)]) := by decide
-- X22
theorem test_release_write_fails : shown (step { running .release 1 [silent] with confW := 0x1002 }) =
    some (.ok, 0, 0, [.write 0x00 0x1000 .nack]) := by decide

/-! ## The other steps -/

/-- An idle block at whose port the host presents `w`. -/
def presenting (w : CmdWord) : State :=
  { State.reset with script := [{ rst := false, cmdValid := true, cmdWord := w }, quietPort] }

theorem test_accept_begin :
    view (fun t => (t.status, t.state, t.cur, t.stepIx)) (step (presenting 1)) =
      some (.running, .probing, some .begin, 0) := by decide
-- E5: STATE is unchanged
theorem test_accept_illegal :
    view (fun t => (t.status, t.state, t.cur)) (step (presenting 0x101)) = some (.running, .uninit, none) := by decide
theorem test_illegal_completes : shown (step { running .getLens 0 [] with cur := none }) =
    some (.illegalCommand, sentinel, 0, []) := by decide
theorem test_reset_wins :
    view (fun t => (t.status, t.state, t.lens, t.trace))
      (step { running .begin 3 [] with
        script := [{ rst := true, cmdValid := true, cmdWord := 1 }], lens := 5, trace := [.read 0 (.ok 0)] }) =
      some (.none, .uninit, 0x00010000, []) := by decide
theorem test_step_out_of_range : exec .getLux (running .getLux 2 []) = .fault .stepOutOfRange := rfl
theorem test_placed_word_runs :
    view State.result (step (State.reset.withFetchWord 64 0x9)) = some 0x00010000 := by decide

/-! ## Witnesses: a concrete state or word that meets the hypotheses of each statement -/

theorem witness_EncodedCommandDecodesToItself :
    (Instr.armThreshold (-32768)).WellFormed ∧ (Instr.setLens 0xFFFFFFFF).WellFormed := by decide
theorem witness_DecodedWordEncodesBack : decode 0x0000000080000007 = some (.armThreshold (-32768)) := by decide
theorem witness_OperandsAreTheFieldsAsGiven :
    decode 0xFF02 = some (.readWord 0xFF) ∧ decode 0xFFFFFF03 = some (.writeWord 0xFF 0xFFFF) ∧
    decode 0x10006 = some (.setIntEn 1) ∧ decode 0x80000007 = some (.armThreshold (-32768)) ∧
    decode 0x7FFF0007 = some (.armThreshold 32767) ∧ decode 0xFFFFFFFF0000000A = some (.setLens 0xFFFFFFFF) := by decide
theorem witness_IllegalWordsAreAcceptedAndFail :
    decode 0x20006 = none ∧ (presenting 0x20006).status ≠ .running ∧ (presenting 0x20006).portNow.rst = false ∧
      (presenting 0x20006).portNow.cmdValid = true ∧ (presenting 0x20006).portNow.cmdWord = 0x20006 ∧
      ((presenting 0x20006).portAt 1).rst = false := by decide
theorem witness_DisassembledLineAssembles :
    (Instr.armThreshold 32767).WellFormed ∧ (Instr.writeWord 0xFF 0xFFFF).WellFormed := by decide

theorem witness_AcceptanceOnlyWhenIdle :
    ((presenting 1).portNow.rst = false ∧ (presenting 1).status ≠ .running ∧ (presenting 1).portNow.cmdValid = true) ∧
    ((running .getLens 0 []).status = .running ∧ quietPort.rst = false) ∧
    (∃ t, (running .getLens 0 []).portNow.rst = false ∧ step (running .getLens 0 []) = .next t) ∧
    (∃ s : State, s = { running .getLens 0 [] with cur := none } ∧ s.portNow.rst = false ∧ s.status = .running) :=
  ⟨by decide, by decide, ⟨_, rfl, rfl⟩, _, rfl, rfl, rfl⟩
theorem witness_StepRunsTheDecodedCommand :
    ((running .getLux 0 [silent]).portNow.rst = false ∧ (running .getLux 0 [silent]).status = .running ∧
      (running .getLux 0 [silent]).cur = some .getLux ∧ ∃ t, exec .getLux (running .getLux 0 [silent]) = .next t) ∧
    ((running .getLux 2 []).portNow.rst = false ∧ (running .getLux 2 []).status = .running ∧
      exec .getLux (running .getLux 2 []) = .fault .stepOutOfRange) ∧
    ((presenting 5).portNow.rst = false ∧ (presenting 5).status ≠ .running ∧ (presenting 5).portNow.cmdValid = true ∧
      decode (presenting 5).portNow.cmdWord = some .getLux) :=
  ⟨⟨rfl, rfl, rfl, _, rfl⟩, ⟨rfl, rfl, rfl⟩, by decide⟩
theorem witness_OnlyARunningCommandTouchesTheBus :
    (∃ s : State, s = { State.reset with script := [quietPort] } ∧ s.portNow.rst = false ∧ s.status ≠ .running ∧
      s.portNow.cmdValid = false) ∧
    (∃ t, step (running .readAls 0 [answer 7]) = .next t ∧ t.draws ≠ (running .readAls 0 [answer 7]).draws) :=
  ⟨⟨_, rfl, by decide⟩, _, rfl, by decide⟩

/-- A block running `i` at its transaction 1, at a step at which the host drives `rst = 1`. -/
def beingReset (i : Instr) : State :=
  { running i 1 [] with script := [{ rst := true, cmdValid := true, cmdWord := 1 }], lens := 5 }

theorem witness_ResetAbandonsAnyCommand :
    (beingReset .begin).portNow.rst = true ∧ (beingReset .begin).status = .running := by decide
theorem witness_OutputsChangeOnlyAtFinish :
    (∃ t, (running .getLens 0 []).portNow.rst = false ∧ step (running .getLens 0 []) = .next t ∧
      t.result ≠ (running .getLens 0 []).result) ∧
    (∃ t, (running .readAls 0 [silent]).portNow.rst = false ∧ step (running .readAls 0 [silent]) = .next t ∧
      t.err ≠ (running .readAls 0 [silent]).err) :=
  ⟨⟨_, rfl, rfl, by decide⟩, _, rfl, rfl, by decide⟩

/-- `running i k as` meets the invariant where `k` is a transaction of `i` and no window is pending. -/
theorem running_inv (i : Instr) (k : BitVec 3) (as : List BusAnswer) (wf : i.WellFormed)
    (hk : k.toNat < max 1 (transactions i)) (ha : ∀ p, i = .armThreshold p → k = 0) : (running i k as).Inv where
  slave := rfl
  addressed := by simp [running, State.reset]
  canonical := by simp [running, State.reset]
  probing := by unfold State.probingMeansBegin running; split <;> simp [*]
  sequence := by
    intro _ j hj
    obtain rfl : i = j := by simpa [running] using hj
    exact ⟨wf, hk, fun p hp h0 => absurd (ha p hp) h0⟩
  outcome := by simp [State.outcomeRecorded, running, State.reset]

theorem witness_StateTransitionsAreTheListedOnes :
    (∃ t, (running .begin 2 [answer 0x0181]).Inv ∧ step (running .begin 2 [answer 0x0181]) = .next t ∧
      t.state ≠ (running .begin 2 [answer 0x0181]).state) ∧
    (∃ t, (running .begin 6 [silent]).Inv ∧ step (running .begin 6 [silent]) = .next t ∧
      t.state ≠ (running .begin 6 [silent]).state) ∧
    (∃ t, step (presenting 1) = .next t ∧ t.state ≠ (presenting 1).state) ∧
    (∃ t, step (beingReset .begin) = .next t ∧ t.state ≠ (beingReset .begin).state) ∧
    (∃ s t : State, s = { running .release 1 [silent] with state := .configured } ∧ step s = .next t ∧
      t.state ≠ s.state) :=
  ⟨⟨_, running_inv _ _ _ trivial (by decide) nofun, rfl, by decide⟩,
    ⟨_, running_inv _ _ _ trivial (by decide) nofun, rfl, by decide⟩,
    ⟨_, rfl, by decide⟩, ⟨_, rfl, by decide⟩, _, _, rfl, rfl, by decide⟩
theorem witness_LensWritersAreTheListedOnes :
    (∃ t, step (beingReset .begin) = .next t ∧ t.lens ≠ (beingReset .begin).lens) ∧
    (∃ t, step (running (.setLens 7) 0 []) = .next t ∧ t.lens ≠ (running (.setLens 7) 0 []).lens) ∧
    (∃ s t : State, s = { running .begin 6 [silent] with lens := 5 } ∧ step s = .next t ∧ t.lens ≠ s.lens) ∧
    (∃ s t : State, s = { running .release 1 [silent] with lens := 5 } ∧ step s = .next t ∧ t.lens ≠ s.lens) :=
  ⟨⟨_, rfl, by decide⟩, ⟨_, rfl, by decide⟩, ⟨_, _, rfl, rfl, by decide⟩, _, _, rfl, rfl, by decide⟩
theorem witness_StepMakesAtMostOneTransaction :
    (∃ t, (running .readAls 0 [answer 7]).portNow.rst = false ∧ step (running .readAls 0 [answer 7]) = .next t ∧
      t.trace ≠ (running .readAls 0 [answer 7]).trace) ∧
    (∃ t, (running .getLens 0 []).portNow.rst = false ∧ step (running .getLens 0 []) = .next t) :=
  ⟨⟨_, rfl, rfl, by decide⟩, _, rfl, rfl⟩

/-- A state whose next transaction the environment answers with `a`. -/
def answering (a : BusAnswer) : State := { State.reset with answers := [a] }

theorem witness_ReadTransactionFollowsItsPhases :
    (answering silent).answerNow.ackAddr = false ∧
    (answering { answer 0 with ack0 := false }).answerNow.ack0 = false ∧
    (answering { answer 0 with request := none }).answerNow.request = none ∧
    (answering { answer 0 with request := some 3 }).answerNow.request = some 3 ∧
    (∀ j < Config.pollLimit, availableAt (answering { answer 0 with availRest := 1 }).answerNow j < 2) ∧
    (0 < Config.pollLimit ∧ 2 ≤ availableAt (answering (answer 7)).answerNow 0) :=
  ⟨rfl, rfl, rfl, rfl, fun j _ => by simp [answering, State.answerNow, availableAt, answer], by
    simp [Config.pollLimit, answering, State.answerNow, availableAt, answer]⟩
theorem witness_PollMakesAtMostItsLimitOfChecks :
    (answer 7).ackAddr = true ∧ (answer 7).ack0 = true ∧ (answer 7).request = some 2 ∧
      (readTransaction 1 0x29 0x04 { answer 7 with availRest := 0 }).1 = .err .notReady ∧
      (readTransaction 3 0x29 0x04 { answer 7 with availRest := 0 }).1 = .err .notReady := by decide
theorem witness_LowByteIsFramedFirst : (readTransaction 1 0x29 0x04 (answer 0x1234)).1 = .ok 0x1234 := by decide
theorem witness_TransactionsWriteOnlyTheirRegister :
    (answering silent).writeOutcome 0xFF 0x1234 = .nack ∧ (answering (answer 0)).writeOutcome 0xFF 0x1234 = .ok := by
  decide

/-- A successful read, a read that fails, a successful write and a write that fails, at the transaction `k` of `i`. -/
abbrev outcomesAt (i : Instr) (k : BitVec 3) (reg : RegAddr) (v : Word) : Prop :=
  (running i k [answer v]).stepIx = k ∧ (running i k [answer v]).readOutcome reg = .ok v ∧
    (running i k [silent]).readOutcome reg = .err .addrPhase ∧
    (running i k [answer 0]).writeOutcome reg v = .ok ∧ (running i k [silent]).writeOutcome reg v = .nack

theorem witness_ReadWordCompletes : outcomesAt (.readWord 0xFF) 0 0xFF 0xFFFF := by decide
theorem witness_WriteWordCompletes : outcomesAt (.writeWord 0xFF 0xFFFF) 0 0xFF 0xFFFF := by decide
theorem witness_ReadAlsCompletes : outcomesAt .readAls 0 0x04 0xFFFF := by decide
theorem witness_ReadClearFlagsCompletes : outcomesAt .readClearFlags 0 0x06 0x4000 := by decide
theorem witness_GetLuxCompletes : outcomesAt .getLux 0 0x00 0x0800 ∧ outcomesAt .getLux 1 0x04 1000 := by decide
theorem witness_SetIntEnCompletes : 
    outcomesAt (.setIntEn 1) 0 0x00 0x1000 ∧ outcomesAt (.setIntEn 1) 1 0x00 0x0002 := by decide
theorem witness_ArmThresholdCompletes :
    (running (.armThreshold 0) 0 []).stepIx = 0 ∧ outcomesAt (.armThreshold 1) 0 0x04 1000 ∧
    outcomesAt (.armThreshold 1) 1 0x00 0x1000 ∧ outcomesAt (.armThreshold 1) 2 0x00 0x0000 ∧
    outcomesAt (.armThreshold 1) 3 0x01 0x0000 ∧ outcomesAt (.armThreshold 1) 4 0x02 0x0000 ∧
    outcomesAt (.armThreshold 1) 5 0x00 0x1000 ∧ outcomesAt (.armThreshold 1) 6 0x00 0x0002 := by decide
theorem witness_BeginCompletes :
    outcomesAt .begin 0 0x02 0x0000 ∧ outcomesAt .begin 1 0x02 0x0000 ∧ outcomesAt .begin 2 0x07 0x0183 ∧
    outcomesAt .begin 2 0x07 0x8300 ∧ outcomesAt .begin 3 0x00 0x1000 ∧ outcomesAt .begin 4 0x01 0xFFFF ∧
    outcomesAt .begin 5 0x02 0x0000 ∧ outcomesAt .begin 6 0x03 0x0000 := by decide
theorem witness_ReleaseCompletes :
    outcomesAt .release 0 0x00 0x1002 ∧ outcomesAt .release 1 0x00 0x0000 := by decide

theorem witness_ResultSignTellsFailure :
    (∃ t, step (running .readAls 0 [silent]) = .next t ∧ t.status = .busError) ∧
    (∃ t, step (running .getLux 1 [answer 1000]) = .next t ∧ t.status = .ok) ∧
    (∃ t, step (running .getLens 0 []) = .next t ∧ t.status = .ok) :=
  ⟨⟨_, rfl, by decide⟩, ⟨_, rfl, by decide⟩, _, rfl, by decide⟩
theorem witness_StateIsNoGuard :
    ∃ t, exec .begin (running .begin 2 [answer 0]) = .next t ∧ t.state ≠ (running .begin 2 [answer 0]).state :=
  ⟨_, rfl, by decide⟩
theorem witness_ConverterReadsOnlyBitsSixToTwelve : (0x0800 : Word) &&& 0x1FC0 = 0xE83F &&& 0x1FC0 := by decide
theorem witness_ConvertIsMonotoneInTheCount :
    (0xFFFE : Word) ≤ 0xFFFF ∧ (0 : Lens) < 1 ∧ (0xFFFE : Word) < 0xFFFF := by decide
theorem witness_WindowIsExactThenFloored : ∃ wh wl : Rat,
    wh = ((0xFFFF : Word).toNat : Rat) * (100 + (1 : Int)) / 100 ∧
      wl = ((0xFFFF : Word).toNat : Rat) * (100 - (1 : Int)) / 100 ∧ (0 : Int) < 1 := ⟨_, _, rfl, rfl, by decide⟩
theorem witness_WindowHasTheIntegerForm : (1 : Int) ≤ 1 ∧ (1 : Int) ≤ 32767 ∧ (1 : Int) ≤ 32767 := by decide
theorem witness_WindowIsNeverEmpty : (0 : Int) < 1 := by decide

/-- `running i 0 as` has just accepted `i`, with a quiet host for the steps to come. -/
theorem running_hasAccepted (i : Instr) (as : List BusAnswer) : (running i 0 as).hasAccepted i :=
  ⟨rfl, rfl, rfl, fun k hk => by interval_cases k <;> rfl⟩

theorem witness_MicroStepsRunThePseudocode : (running .getLux 0 [silent]).hasAccepted .getLux :=
  running_hasAccepted _ _
theorem witness_BeginDependsOnTheIdReadOnly : (running .begin 0 [silent]).hasAccepted .begin := running_hasAccepted _ _
theorem witness_FailedArmLeavesTheWritesBeforeIt :
    (0 : Int) < 1 ∧ (running (.armThreshold 1) 0 [silent]).hasAccepted (.armThreshold 1) :=
  ⟨by decide, running_hasAccepted _ _⟩
theorem witness_SuccessfulArmWritesWhileDisabled :
    ∃ s t : State, s = running (.armThreshold 10) 0 (List.replicate 7 (answer 1000)) ∧ (0 : Int) < 10 ∧
      s.hasAccepted (.armThreshold 10) ∧ untilIdle 7 s = .next t ∧ t.status = .ok :=
  ⟨_, _, rfl, by decide, running_hasAccepted _ _, rfl, rfl⟩
theorem witness_TransactionCountsOfEveryCommand : (running .release 0 [silent]).hasAccepted .release ∧
    (running (.armThreshold (-5)) 0 []).hasAccepted (.armThreshold (-5)) :=
  ⟨running_hasAccepted _ _, running_hasAccepted _ _⟩

/-- A block that has just accepted `i`, and a host that presents the word of `j` right after its completion. -/
def twice (i j : Instr) (as : List BusAnswer) : State :=
  { running i 0 as with
    script := quietPort :: { rst := false, cmdValid := true, cmdWord := encode j } :: List.replicate 8 quietPort }

theorem twice_hasAccepted (i j : Instr) (as : List BusAnswer) : (twice i j as).hasAccepted i :=
  ⟨rfl, rfl, rfl, fun k hk => by interval_cases k <;> rfl⟩

theorem witness_RoundTripUnderDeviceEcho :
    ((0x03 : RegAddr) ≤ 3 ∧ DeviceEcho [] (.write 0x03 0x1234 .ok :: ([] ++ [.read 0x03 (.ok 0x1234)]))) ∧
    (∃ s : State, s = twice (.writeWord 0x03 0x1234) (.readWord 0x03) [answer 0, answer 0x1234] ∧
      s.hasAccepted (.writeWord 0x03 0x1234) ∧ (s.portAt 1).cmdValid = true ∧
      (s.portAt 1).cmdWord = encode (.readWord 0x03) ∧
      DeviceEcho s.written [.write 0x03 0x1234 .ok, .read 0x03 (.ok 0x1234)]) := by
  refine ⟨⟨by decide, ?_⟩, _, rfl, twice_hasAccepted _ _ _, rfl, rfl, ?_⟩ <;>
    exact ⟨fun _ v hv => Option.some.inj (Eq.trans (by decide) hv), trivial⟩
-- 20_memory.md R67: the same register, nothing written before, two different words
theorem test_echo_reads_agree : ¬ DeviceEcho [] [.read 0x00 (.ok 1), .read 0x00 (.ok 2)] :=
  fun h => absurd (h.2.1 (by decide) 1 (by decide)) (by decide)
theorem witness_ReadsAreIdempotentUnderDeviceEcho :
    ((0x03 : RegAddr) ≤ 3 ∧ DeviceEcho [] (.read 0x03 (.ok 7) :: ([.read 0x04 (.ok 8)] ++ [.read 0x03 (.ok 7)]))) ∧
    (∃ s : State, s = twice (.readWord 0x03) (.readWord 0x03) [answer 7, answer 7] ∧
      s.hasAccepted (.readWord 0x03) ∧ (s.portAt 1).cmdValid = true ∧
      (s.portAt 1).cmdWord = encode (.readWord 0x03) ∧
      DeviceEcho s.written [.read 0x03 (.ok 7), .read 0x03 (.ok 7)]) := by
  have unknown : ∀ v w : Word, Memory.readWord [] 0x03 = some v → w = v := fun v w h => by
    simp [Memory.readWord, Memory.readByte] at h
  have known : ∀ v, Memory.readWord (Memory.writeWord [] 0x03 7) 0x03 = some v → 7 = v := fun v h =>
    Option.some.inj (Eq.trans (by decide) h)
  exact ⟨⟨by decide, fun _ v => unknown v 7, fun h => absurd h (by decide), fun _ => known, trivial⟩, _, rfl,
    twice_hasAccepted _ _ _, rfl, rfl, fun _ v => unknown v 7, fun _ => known, trivial⟩
theorem witness_FlagIsSeenAtMostOnce :
    ∃ s t t' u : State, s = twice .readClearFlags .readClearFlags [answer 0x4000, answer 0] ∧
      s.hasAccepted .readClearFlags ∧ (s.portAt 1).cmdValid = true ∧
      (s.portAt 1).cmdWord = encode .readClearFlags ∧ untilIdle 7 s = .next t ∧ step t = .next t' ∧
      untilIdle 7 t' = .next u ∧ t.status = .ok ∧ t.result = 1 ∧ u.status = .ok ∧
      IfClearOnRead (fun _ => False) [.read 0x06 (.ok 0x4000), .read 0x06 (.ok 0)] := by
  refine ⟨_, _, _, _, rfl, twice_hasAccepted _ _ _, rfl, rfl, rfl, rfl, rfl, rfl, by decide, rfl, ?_⟩
  intro i j v w hij _ hj _
  match j, hij, hj with
  | 1, _, hj =>
    obtain rfl : (0 : Word) = w := by simpa [Reg.intFlags] using hj
    decide

theorem witness_EveryStepKeepsTheInvariant :
    ∃ t, (running .begin 0 [silent]).Inv ∧ step (running .begin 0 [silent]) = .next t :=
  ⟨_, running_inv _ _ _ trivial (by decide) nofun, rfl⟩
theorem witness_TheMachineNeverStops : (running (.armThreshold 1) 0 [silent]).Inv :=
  running_inv _ _ _ (by decide) (by decide) fun _ _ => rfl

end Sys2Proof.Tests
end

section
/-! PROOFS. What one step can do, and what a micro-step changes only through its word transaction
(spec 00_scope.md R6, R11, 40_transport.md R120, R121). -/

namespace Sys2Proof.Machine

/-! ## One step -/

/-- A busy block whose current command is `i` runs `exec i`. -/
theorem runCur_of_cur {s : State} {i : Instr} (h : s.cur = some i) : runCur s = exec i s := by
  simp [runCur, h]

/-- An idle block that is offered a command accepts it. -/
theorem step_accept {s : State} (hr : s.portNow.rst = false) (hb : s.status ≠ .running)
    (hv : s.portNow.cmdValid = true) : step s = .next (s.accept s.portNow.cmdWord).advance := by
  simp [step, hr, State.busy, hb, hv]

/-- An idle block that is offered nothing waits. -/
theorem step_idle {s : State} (hr : s.portNow.rst = false) (hb : s.status ≠ .running)
    (hv : s.portNow.cmdValid = false) : step s = .next s.advance := by
  simp [step, hr, State.busy, hb, hv]

/-- A reset is taken whatever the block is doing. -/
theorem step_reset {s : State} (hr : s.portNow.rst = true) : step s = .next s.resetBlock.advance := by
  simp [step, hr]

theorem thenAdvance_eq_next {o : Host.Outcome State Fault Refusal} {t : State} :
    thenAdvance o = .next t ↔ ∃ t', o = .next t' ∧ t = t'.advance := by
  cases o with
  | next u => simp [thenAdvance, eq_comm]
  | fault r => simp [thenAdvance]
  | refused r => simp [thenAdvance]

/-- Where a step ends in a next state, it was a reset, a micro-step, an acceptance or a wait. -/
theorem step_cases {s t : State} (h : step s = .next t) :
    (s.portNow.rst = true ∧ t = s.resetBlock.advance) ∨
    (s.portNow.rst = false ∧ s.status = .running ∧ ∃ t', runCur s = .next t' ∧ t = t'.advance) ∨
    (s.portNow.rst = false ∧ s.status ≠ .running ∧ s.portNow.cmdValid = true ∧
      t = (s.accept s.portNow.cmdWord).advance) ∨
    (s.portNow.rst = false ∧ s.status ≠ .running ∧ s.portNow.cmdValid = false ∧ t = s.advance) := by
  cases hr : s.portNow.rst with
  | true =>
    rw [step_reset hr] at h
    cases h
    exact .inl ⟨rfl, rfl⟩
  | false =>
    refine .inr ?_
    by_cases hb : s.status = .running
    · rw [step_busy s hr hb, thenAdvance_eq_next] at h
      exact .inl ⟨rfl, hb, h⟩
    · refine .inr ?_
      cases hv : s.portNow.cmdValid with
      | true =>
        rw [step_accept hr hb hv] at h
        cases h
        exact .inl ⟨rfl, hb, rfl, rfl⟩
      | false =>
        rw [step_idle hr hb hv] at h
        cases h
        exact .inr ⟨rfl, hb, rfl, rfl⟩

/-- A micro-step of a busy block is one of its current command, or the completion of an ILLEGAL word. -/
theorem runCur_cases {s t : State} (h : runCur s = .next t) :
    (∃ i, s.cur = some i ∧ exec i s = .next t) ∨ (s.cur = none ∧ t = s.failIllegal) := by
  cases hc : s.cur with
  | none =>
    simp only [runCur, hc] at h
    cases h
    exact .inr ⟨rfl, rfl⟩
  | some i => exact .inl ⟨i, rfl, by rwa [runCur_of_cur hc] at h⟩

/-- A command word put in by `withFetchWord` is taken as it is. -/
theorem State.withFetchWord_cur (s : State) (w : CmdWord) : (s.withFetchWord 64 w.toNat).cur = decode w := by
  rw [State.withFetchWord, Nat.mod_eq_of_lt w.isLt, BitVec.ofNat_toNat, BitVec.setWidth_eq, State.accept_cur]

/-- Settles O10, by the equations of a busy step, of an acceptance and of `withFetchWord`. -/
theorem stepRunsTheDecodedCommand : Obligations.StepRunsTheDecodedCommand := by
  refine ⟨fun s i hr hb hc => ?_, fun s i hr hb hv hd => ?_, fun s w i hd => ?_⟩
  · have hstep : step s = thenAdvance (exec i s) := by rw [step_busy s hr hb, runCur_of_cur hc]
    exact ⟨fun t ht => by rw [hstep, ht]; rfl, fun r hf => by rw [hstep, hf]; rfl⟩
  · exact ⟨_, step_accept hr hb hv, rfl, hd, rfl⟩
  · rw [step_busy _ rfl rfl, runCur_of_cur ((s.withFetchWord_cur w).trans hd)]

/-! ## What a micro-step changes only through its word transaction -/

/-- The state without the registers that a micro-step itself computes: what is left, a micro-step changes only through its
word transaction. -/
def State.txPart (s : State) : State :=
  { s with
    state := .uninit, lens := 0, status := .none, result := 0, err := 0, stepIx := 0
    confW := 0, count := 0, whV := 0, wlV := 0 }

theorem State.txPart_eq_iff {s t : State} :
    t.txPart = s.txPart ↔
      t.slaveAddr = s.slaveAddr ∧ t.cur = s.cur ∧ t.trace = s.trace ∧ t.wire = s.wire ∧ t.written = s.written ∧
        t.script = s.script ∧ t.tick = s.tick ∧ t.answers = s.answers ∧ t.draws = s.draws := by
  simp [State.txPart]

/-- From `s` to `t` at most one word transaction was made (spec 00_scope.md R11), and nothing but it has changed `CUR`,
`SLAVE_ADDR`, the observations or the inputs to come. -/
inductive AtMostOneTransaction (s t : State) : Prop where
  | none (h : t.txPart = s.txPart)
  | read (reg : RegAddr) (h : t.txPart = (s.afterRead reg).txPart)
  | write (reg : RegAddr) (v : Word) (h : t.txPart = (s.afterWrite reg v).txPart)

/-! ### The parts of commands -/

theorem readThenFinish_txPart (reg : RegAddr) (value : Word → BitVec 64) (s : State) :
    (readThenFinish reg value s).txPart = (s.afterRead reg).txPart := by
  obtain ⟨_, -, he⟩ | ⟨_, -, he⟩ := readThenFinish_cases reg value s <;> rw [he] <;> rfl

theorem writeThenFinish_txPart (reg : RegAddr) (v : Word) (s : State) :
    (writeThenFinish reg v s).txPart = (s.afterWrite reg v).txPart := by
  unfold writeThenFinish; split <;> rfl

theorem getLuxConf_txPart (s : State) : (getLuxConf s).txPart = (s.afterRead Reg.alsConf).txPart := by
  unfold getLuxConf; split <;> rfl

theorem getLuxCount_txPart (s : State) : (getLuxCount s).txPart = (s.afterRead Reg.als).txPart := by
  unfold getLuxCount; split <;> rfl

theorem rmwRead_txPart {onFail : ReadCause → State → State} (hf : ∀ c t, (onFail c t).txPart = t.txPart)
    (k : BitVec 3) (s : State) : (rmwRead onFail k s).txPart = (s.afterRead Reg.alsConf).txPart := by
  obtain ⟨c, -, he⟩ | ⟨_, -, he⟩ := rmwRead_cases onFail k s <;> rw [he]
  · exact hf c _
  · rfl

theorem rmwWrite_txPart {andThen : WriteOutcome → State → State} (hf : ∀ o t, (andThen o t).txPart = t.txPart)
    (en : BitVec 1) (s : State) :
    (rmwWrite en andThen s).txPart =
      (s.afterWrite Reg.alsConf (AlsConf.withIntEn en s.confW)).txPart := hf _ _

theorem setIntEnDone_txPart (o : WriteOutcome) (t : State) : (setIntEnDone o t).txPart = t.txPart := by
  cases o <;> rfl

theorem armReadCount_txPart (p : Int) (s : State) : (armReadCount p s).txPart = (s.afterRead Reg.als).txPart := by
  unfold armReadCount; split <;> rfl

theorem armGoOn_txPart (k : BitVec 3) (reg : RegAddr) (o : WriteOutcome) (t : State) :
    (armGoOn k reg o t).txPart = t.txPart := by
  cases o <;> rfl

theorem armDone_txPart (o : WriteOutcome) (t : State) : (armDone o t).txPart = t.txPart := by
  cases o <;> rfl

theorem beginProbe_txPart (s : State) : (beginProbe s).txPart = (s.afterRead Reg.ident).txPart := by
  unfold beginProbe
  split
  · rfl
  · split <;> rfl

/-! ### The commands -/

theorem execBegin_atMostOneTransaction {s t : State} (h : execBegin s = .next t) : AtMostOneTransaction s t := by
  unfold execBegin at h
  split at h <;> cases h
  · exact .write _ _ rfl
  · exact .write _ _ rfl
  · exact .read _ (beginProbe_txPart s)
  · exact .write _ _ rfl
  · exact .write _ _ rfl
  · exact .write _ _ rfl
  · exact .write _ _ rfl

theorem execGetLux_atMostOneTransaction {s t : State} (h : execGetLux s = .next t) : AtMostOneTransaction s t := by
  unfold execGetLux at h
  split at h <;> cases h
  · exact .read _ (getLuxConf_txPart s)
  · exact .read _ (getLuxCount_txPart s)

theorem execSetIntEn_atMostOneTransaction {en : BitVec 1} {s t : State} (h : execSetIntEn en s = .next t) :
    AtMostOneTransaction s t := by
  unfold execSetIntEn at h
  split at h <;> cases h
  · exact .read _ (rmwRead_txPart (fun _ _ => by rfl) _ s)
  · exact .write _ _ (rmwWrite_txPart setIntEnDone_txPart en s)

theorem execArmThreshold_atMostOneTransaction {p : Int} {s t : State} (h : execArmThreshold p s = .next t) :
    AtMostOneTransaction s t := by
  unfold execArmThreshold at h
  split at h <;> cases h
  · split
    · exact .read _ (armReadCount_txPart p s)
    · exact .none rfl
  · exact .read _ (rmwRead_txPart (fun _ _ => by rfl) _ s)
  · exact .write _ _ (rmwWrite_txPart (armGoOn_txPart _ _) 0 s)
  · exact .write _ _ (armGoOn_txPart _ _ _ _)
  · exact .write _ _ (armGoOn_txPart _ _ _ _)
  · exact .read _ (rmwRead_txPart (fun _ _ => by rfl) _ s)
  · exact .write _ _ (rmwWrite_txPart armDone_txPart 1 s)

theorem execRelease_atMostOneTransaction {s t : State} (h : execRelease s = .next t) : AtMostOneTransaction s t := by
  unfold execRelease at h
  split at h <;> cases h
  · exact .read _ (rmwRead_txPart (fun _ _ => by rfl) _ s)
  · exact .write _ _ (rmwWrite_txPart (fun _ _ => by rfl) 0 s)

/-- A micro-step of any command makes at most one word transaction. -/
theorem exec_atMostOneTransaction {i : Instr} {s t : State} (h : exec i s = .next t) : AtMostOneTransaction s t := by
  cases i with
  | begin => exact execBegin_atMostOneTransaction h
  | readWord reg =>
    simp only [exec, execReadWord] at h
    split at h <;> cases h
    exact .read _ (readThenFinish_txPart _ _ s)
  | writeWord reg v =>
    simp only [exec, execWriteWord] at h
    split at h <;> cases h
    exact .write _ _ (writeThenFinish_txPart reg v s)
  | readAls =>
    simp only [exec, execReadAls] at h
    split at h <;> cases h
    exact .read _ (readThenFinish_txPart _ _ s)
  | getLux => exact execGetLux_atMostOneTransaction h
  | setIntEn en => exact execSetIntEn_atMostOneTransaction h
  | armThreshold p => exact execArmThreshold_atMostOneTransaction h
  | readClearFlags =>
    simp only [exec, execReadClearFlags] at h
    split at h <;> cases h
    exact .read _ (readThenFinish_txPart _ _ s)
  | getLens => cases h; exact .none rfl
  | setLens v => cases h; exact .none rfl
  | release => exact execRelease_atMostOneTransaction h

theorem runCur_atMostOneTransaction {s t : State} (h : runCur s = .next t) : AtMostOneTransaction s t := by
  obtain ⟨i, -, he⟩ | ⟨-, rfl⟩ := runCur_cases h
  · exact exec_atMostOneTransaction he
  · exact .none rfl

/-- What the observations and the answers to come say of a micro-step: nothing happened, or one event and one answer. -/
theorem AtMostOneTransaction.observed {s t : State} (h : AtMostOneTransaction s t) :
    (t.trace = s.trace ∧ t.wire = s.wire ∧ t.written = s.written ∧ t.answers = s.answers ∧ t.draws = s.draws) ∨
      ∃ e, t.trace = s.trace ++ [e] ∧ t.answers = s.answers.tail ∧ t.draws = s.draws + 1 := by
  cases h with
  | none h =>
    obtain ⟨-, -, htrace, hwire, hwritten, -, -, hanswers, hdraws⟩ := State.txPart_eq_iff.1 h
    exact .inl ⟨htrace, hwire, hwritten, hanswers, hdraws⟩
  | read _ h | write _ _ h =>
    obtain ⟨-, -, htrace, -, -, -, -, hanswers, hdraws⟩ := State.txPart_eq_iff.1 h
    exact .inr ⟨_, htrace, hanswers, hdraws⟩

/-- Settles O18: of the kinds of step, only a micro-step can make a transaction. -/
theorem stepMakesAtMostOneTransaction : Obligations.StepMakesAtMostOneTransaction := by
  intro s t hr h
  obtain ⟨hreset, -⟩ | ⟨-, -, t', hrun, rfl⟩ | ⟨-, -, -, rfl⟩ | ⟨-, -, -, rfl⟩ := step_cases h
  · simp [hr] at hreset
  · exact (runCur_atMostOneTransaction hrun).observed
  · exact .inl ⟨rfl, rfl, rfl, rfl, rfl⟩
  · exact .inl ⟨rfl, rfl, rfl, rfl, rfl⟩

end Sys2Proof.Machine
end

section
/-! PROOFS. The micro-step that `STEP` selects, for every command: one equation for each of its word transactions
(spec 10_state.md R28, 70_reset_and_hazards.md R305). -/

namespace Sys2Proof.Machine

variable {s : State}

theorem exec_readWord {reg : RegAddr} (h : s.stepIx = 0) :
    exec (.readWord reg) s = .next (readThenFinish reg (fun w => w.zeroExtend 64) s) := by
  simp [exec, execReadWord, h]
theorem exec_writeWord {reg : RegAddr} {v : Word} (h : s.stepIx = 0) :
    exec (.writeWord reg v) s = .next (writeThenFinish reg v s) := by simp [exec, execWriteWord, h]
theorem exec_readAls (h : s.stepIx = 0) :
    exec .readAls s = .next (readThenFinish Reg.als (fun w => w.zeroExtend 64) s) := by simp [exec, execReadAls, h]
theorem exec_readClearFlags (h : s.stepIx = 0) :
    exec .readClearFlags s = .next (readThenFinish Reg.intFlags (fun w => if flagSet w then 1 else 0) s) := by
  simp [exec, execReadClearFlags, h]

theorem exec_getLux_conf (h : s.stepIx = 0) : exec .getLux s = .next (getLuxConf s) := by simp [exec, execGetLux, h]
theorem exec_getLux_count (h : s.stepIx = 1) : exec .getLux s = .next (getLuxCount s) := by simp [exec, execGetLux, h]

theorem exec_setIntEn_read {en : BitVec 1} (h : s.stepIx = 0) :
    exec (.setIntEn en) s = .next (rmwRead (fun c t => t.raiseBusError c.cause 0 Reg.alsConf) 0 s) := by
  simp [exec, execSetIntEn, h]
theorem exec_setIntEn_write {en : BitVec 1} (h : s.stepIx = 1) :
    exec (.setIntEn en) s = .next (rmwWrite en setIntEnDone s) := by simp [exec, execSetIntEn, h]

theorem exec_release_read (h : s.stepIx = 0) :
    exec .release s = .next (rmwRead (fun _ t => releaseDone t) 0 s) := by simp [exec, execRelease, h]
theorem exec_release_write (h : s.stepIx = 1) :
    exec .release s = .next (rmwWrite 0 (fun _ t => releaseDone t) s) := by simp [exec, execRelease, h]

theorem exec_begin_wl (h : s.stepIx = 0) : exec .begin s = .next (beginWrite 0 Reg.wl 0x0000 s) := by
  simp [exec, execBegin, h]
theorem exec_begin_wl_again (h : s.stepIx = 1) : exec .begin s = .next (beginWrite 1 Reg.wl 0x0000 s) := by
  simp [exec, execBegin, h]
theorem exec_begin_probe (h : s.stepIx = 2) : exec .begin s = .next (beginProbe s) := by simp [exec, execBegin, h]
theorem exec_begin_conf (h : s.stepIx = 3) : exec .begin s = .next (beginWrite 3 Reg.alsConf AlsConf.default s) := by
  simp [exec, execBegin, h]
theorem exec_begin_wh (h : s.stepIx = 4) : exec .begin s = .next (beginWrite 4 Reg.wh 0xFFFF s) := by
  simp [exec, execBegin, h]
theorem exec_begin_wl_last (h : s.stepIx = 5) : exec .begin s = .next (beginWrite 5 Reg.wl 0x0000 s) := by
  simp [exec, execBegin, h]
theorem exec_begin_psm (h : s.stepIx = 6) : exec .begin s = .next (beginDone s) := by simp [exec, execBegin, h]

theorem exec_armThreshold_refused {p : Int} (h : s.stepIx = 0) (hp : p ≤ 0) :
    exec (.armThreshold p) s = .next (s.fail .invalidArgument 0) := by
  simp [exec, execArmThreshold, h, argumentOk, Int.not_lt.2 hp]
theorem exec_armThreshold_count {p : Int} (h : s.stepIx = 0) (hp : 0 < p) :
    exec (.armThreshold p) s = .next (armReadCount p s) := by simp [exec, execArmThreshold, h, argumentOk, hp]
theorem exec_armThreshold_disable_read {p : Int} (h : s.stepIx = 1) :
    exec (.armThreshold p) s = .next (rmwRead (fun c t => t.raiseBusError c.cause 1 Reg.alsConf) 1 s) := by
  simp [exec, execArmThreshold, h]
theorem exec_armThreshold_disable_write {p : Int} (h : s.stepIx = 2) :
    exec (.armThreshold p) s = .next (rmwWrite 0 (armGoOn 2 Reg.alsConf) s) := by simp [exec, execArmThreshold, h]
theorem exec_armThreshold_wh {p : Int} (h : s.stepIx = 3) :
    exec (.armThreshold p) s =
      .next (armGoOn 3 Reg.wh (s.writeOutcome Reg.wh s.whV) (s.afterWrite Reg.wh s.whV)) := by
  simp [exec, execArmThreshold, h]
theorem exec_armThreshold_wl {p : Int} (h : s.stepIx = 4) :
    exec (.armThreshold p) s =
      .next (armGoOn 4 Reg.wl (s.writeOutcome Reg.wl s.wlV) (s.afterWrite Reg.wl s.wlV)) := by
  simp [exec, execArmThreshold, h]
theorem exec_armThreshold_enable_read {p : Int} (h : s.stepIx = 5) :
    exec (.armThreshold p) s = .next (rmwRead (fun c t => t.raiseBusError c.cause 5 Reg.alsConf) 5 s) := by
  simp [exec, execArmThreshold, h]
theorem exec_armThreshold_enable_write {p : Int} (h : s.stepIx = 6) :
    exec (.armThreshold p) s = .next (rmwWrite 1 armDone s) := by simp [exec, execArmThreshold, h]

end Sys2Proof.Machine
end

section
/-! PROOFS. The micro-steps of a command run its pseudocode (spec 00_scope.md R6, R15, 10_state.md R28; log entry 1).

The machine and the pseudocode are kept side by side: `s.tracks u i k n` says that the machine is before the transaction
`k` of `i` in a state that shows what the pseudocode's state `u` shows. One rule for each operation moves both along, and
each command's lemma goes through its transactions in order. -/

namespace Sys2Proof.Machine

/-! ## Running to the end -/

/-- The host's lines at the steps after this one, seen from this one and from the next. -/
theorem State.portAt_advance (s : State) (k : Nat) : s.advance.portAt k = s.portAt (k + 1) := by
  simp [State.portAt, Nat.add_comm, Nat.add_left_comm]

theorem State.noResetFor_advance {s : State} {n : Nat} (h : s.noResetFor (n + 1)) : s.advance.noResetFor n :=
  fun k hk => by rw [s.portAt_advance]; exact h (k + 1) (by omega)

theorem untilIdle_of_idle {s : State} (h : s.status ≠ .running) (n : Nat) : untilIdle n s = .next s := by
  cases n with
  | zero => rfl
  | succ n => simp [untilIdle, State.busy, h]

theorem untilIdle_of_step {s t : State} (hb : s.status = .running) (h : step s = .next t) (n : Nat) :
    untilIdle (n + 1) s = untilIdle n t := by
  simp [untilIdle, State.busy, hb, h]

/-- Within `n` steps the block is idle, in what the host and the sensor can see of the state `z`. -/
def State.endsLike (n : Nat) (s z : State) : Prop :=
  ∃ t, untilIdle n s = .next t ∧ t.status ≠ .running ∧ t.visible = z.visible

/-- The machine's state `s` is before the transaction `k` of the command `i`, with no reset in the next `n` steps, and shows
what the pseudocode's state `u` shows. -/
structure State.tracks (s u : State) (i : Instr) (k : BitVec 3) (n : Nat) : Prop where
  busy : s.status = .running
  cur : s.cur = some i
  stepIx : s.stepIx = k
  quiet : s.noResetFor n
  visible : s.visible = u.visible

theorem State.tracks_of_hasAccepted {s : State} {i : Instr} (h : s.hasAccepted i) : s.tracks s i 0 7 := by
  obtain ⟨hb, hc, hk, hq⟩ := h
  exact ⟨hb, hc, hk, hq, rfl⟩

namespace State.tracks

variable {s u x v z : State} {i : Instr} {k : BitVec 3} {n : Nat}

/-! ## What shows is enough for what the pseudocode does -/

theorem lens_eq (h : s.tracks u i k n) : s.lens = u.lens := by
  have hl : s.visible.lens = u.visible.lens := by rw [h.visible]
  exact hl

theorem readOutcome_eq (h : s.tracks u i k n) (reg : RegAddr) : s.readOutcome reg = u.readOutcome reg := by
  have ho : s.visible.readOutcome reg = u.visible.readOutcome reg := by rw [h.visible]
  exact ho

theorem writeOutcome_eq (h : s.tracks u i k n) (reg : RegAddr) (w : Word) :
    s.writeOutcome reg w = u.writeOutcome reg w := by
  have ho : s.visible.writeOutcome reg w = u.visible.writeOutcome reg w := by rw [h.visible]
  exact ho

/-- An operation that does not depend on the sequencer registers or the host's lines keeps what shows alike. -/
theorem visible_congr (h : s.tracks u i k n) (f : State → State) (hf : ∀ y, (f y).visible = (f y.visible).visible) :
    (f s).visible = (f u).visible := by
  rw [hf s, hf u, h.visible]

/-! ## One micro-step -/

/-- The step runs the micro-step `t` of the command. -/
theorem endsLike_of_exec (h : s.tracks u i k (n + 1)) {t : State} (hx : exec i s = .next t)
    (ht : t.advance.endsLike n z) : s.endsLike (n + 1) z := by
  obtain ⟨t', hrun, hidle, hvis⟩ := ht
  have hr : s.portNow.rst = false := h.quiet 0 (by omega)
  have hstep : step s = .next t.advance := by rw [step_busy s hr h.busy, runCur_of_cur h.cur, hx]; rfl
  exact ⟨t', (untilIdle_of_step h.busy hstep n).trans hrun, hidle, hvis⟩

theorem advance (h : s.tracks u i k (n + 1)) : s.advance.tracks u i k n where
  busy := h.busy
  cur := h.cur
  stepIx := h.stepIx
  quiet := s.noResetFor_advance h.quiet
  visible := h.visible

theorem afterRead (h : s.tracks u i k (n + 1)) (reg : RegAddr) :
    (s.afterRead reg).advance.tracks (u.afterRead reg) i k n where
  busy := h.busy
  cur := h.cur
  stepIx := h.stepIx
  quiet := s.noResetFor_advance h.quiet
  visible := h.visible_congr (·.afterRead reg) fun _ => rfl

theorem afterWrite (h : s.tracks u i k (n + 1)) (reg : RegAddr) (w : Word) :
    (s.afterWrite reg w).advance.tracks (u.afterWrite reg w) i k n where
  busy := h.busy
  cur := h.cur
  stepIx := h.stepIx
  quiet := s.noResetFor_advance h.quiet
  visible := h.visible_congr (·.afterWrite reg w) fun _ => rfl

/-- The sequencer registers do not show (spec 10_state.md R28). -/
theorem sequencer (h : x.advance.tracks v i k n) (k' : BitVec 3) (conf count wh wl : Word) :
    { x with stepIx := k', confW := conf, count := count, whV := wh, wlV := wl }.advance.tracks v i k' n where
  busy := h.busy
  cur := h.cur
  stepIx := rfl
  quiet := h.quiet
  visible := h.visible

/-- A micro-step that ends the command as the pseudocode does. -/
theorem ends (h : x.advance.tracks v i k n) (f : State → State) (hf : ∀ y, (f y).visible = (f y.visible).visible)
    (hidle : ∀ y, (f y).status ≠ .running) : (f x).advance.endsLike n (f v) :=
  ⟨_, untilIdle_of_idle (s := (f x).advance) (hidle x) n, hidle x,
    ((hf x).trans (hf x.advance).symm).trans (h.visible_congr f hf)⟩

theorem ends_ok (h : x.advance.tracks v i k n) (r : BitVec 64) :
    (x.finish .ok r 0).advance.endsLike n (v.finish .ok r 0) :=
  h.ends (·.finish .ok r 0) (fun _ => rfl) fun _ => nofun

theorem ends_busError (h : x.advance.tracks v i k n) (c : Cause) (j : BitVec 4) (reg : RegAddr) :
    (x.raiseBusError c j reg).advance.endsLike n (v.raiseBusError c j reg) :=
  h.ends (·.raiseBusError c j reg) (fun _ => rfl) fun _ => nofun

/-! ## Commands of one transaction -/

theorem readThenFinish_endsLike (h : s.tracks u i k (n + 1)) {reg : RegAddr} {value : Word → BitVec 64}
    (hx : exec i s = .next (readThenFinish reg value s)) : s.endsLike (n + 1) (readThenFinish reg value u) := by
  refine h.endsLike_of_exec hx ?_
  unfold readThenFinish
  rw [h.readOutcome_eq]
  cases u.readOutcome reg with
  | err c => exact (h.afterRead reg).ends_busError c.cause 0 reg
  | ok w => exact (h.afterRead reg).ends_ok (value w)

theorem writeThenFinish_endsLike (h : s.tracks u i k (n + 1)) {reg : RegAddr} {w : Word}
    (hx : exec i s = .next (writeThenFinish reg w s)) : s.endsLike (n + 1) (writeThenFinish reg w u) := by
  refine h.endsLike_of_exec hx ?_
  unfold writeThenFinish
  rw [h.writeOutcome_eq]
  cases u.writeOutcome reg w with
  | nack => exact (h.afterWrite reg w).ends_busError .writeNack 0 reg
  | ok => exact (h.afterWrite reg w).ends_ok 0

/-! ## GET_LUX -/

/-- Transaction 1 of GET_LUX, where CONF_W holds the word that the pseudocode has read. -/
theorem getLuxCount_endsLike {conf : Word} (h : s.tracks u .getLux 1 (n + 1)) (hconf : s.confW = conf)
    (failed : ∀ c, u.readOutcome Reg.als = .err c → z = (u.afterRead Reg.als).raiseBusError c.cause 1 Reg.als)
    (read : ∀ count, u.readOutcome Reg.als = .ok count →
      z = (u.afterRead Reg.als).finish .ok ((convert conf count u.lens).zeroExtend 64) 0) : s.endsLike (n + 1) z := by
  refine h.endsLike_of_exec (exec_getLux_count h.stepIx) ?_
  have h1 := h.afterRead Reg.als
  rw [getLuxCount, h.readOutcome_eq, h.lens_eq, hconf]
  cases ho : u.readOutcome Reg.als with
  | err c => rw [failed c ho]; exact h1.ends_busError c.cause 1 Reg.als
  | ok count => rw [read count ho]; exact (h1.sequencer _ _ count _ _).ends_ok _

theorem getLux_endsLike (h : s.tracks u .getLux 0 7) : s.endsLike 7 (pseudoGetLux u) := by
  refine h.endsLike_of_exec (exec_getLux_conf h.stepIx) ?_
  have h1 := h.afterRead Reg.alsConf
  simp only [getLuxConf, pseudoGetLux, h.readOutcome_eq]
  cases u.readOutcome Reg.alsConf with
  | err c => exact h1.ends_busError c.cause 0 Reg.alsConf
  | ok conf =>
    exact (h1.sequencer 1 conf _ _ _).getLuxCount_endsLike (conf := conf) rfl (fun c ho => by simp only [ho])
      fun count ho => by simp only [ho, State.afterRead_lens]

/-! ## The interrupt-enable RMW -/

/-- The write half of the RMW, where CONF_W holds the word that the pseudocode has read. -/
theorem rmwWrite_endsLike {en : BitVec 1} {conf : Word} {andThen : WriteOutcome → State → State}
    (h : s.tracks u i k (n + 1)) (hconf : s.confW = conf) (hx : exec i s = .next (rmwWrite en andThen s))
    (next : ∀ x : State,
      x.advance.tracks (u.afterWrite Reg.alsConf (AlsConf.withIntEn en conf)) i k n → x.whV = s.whV → x.wlV = s.wlV →
      (andThen (u.writeOutcome Reg.alsConf (AlsConf.withIntEn en conf)) x).advance.endsLike n z) :
    s.endsLike (n + 1) z := by
  refine h.endsLike_of_exec hx ?_
  rw [rmwWrite, h.writeOutcome_eq, hconf]
  exact next _ (h.afterWrite Reg.alsConf (AlsConf.withIntEn en conf)) rfl rfl

/-- The two micro-steps of the RMW beside `set_int_en_rmw`: at each of its three ends, what is left to show is that the
command goes on from there as its pseudocode does. -/
theorem rmw_endsLike (h : s.tracks u i k (n + 2)) {en : BitVec 1} {j : BitVec 4}
    {onFail : ReadCause → State → State} {andThen : WriteOutcome → State → State}
    (hread : exec i s = .next (rmwRead onFail k s))
    (hwrite : ∀ y : State, y.stepIx = k + 1 → exec i y = .next (rmwWrite en andThen y))
    (readFailed : ∀ c x v, x.advance.tracks v i k (n + 1) → pseudoRmw en j u = (v, some (ReadCause.cause c, j)) →
      (onFail c x).advance.endsLike (n + 1) z)
    (nacked : ∀ x v, x.advance.tracks v i (k + 1) n → pseudoRmw en j u = (v, some (.writeNack, j + 1)) →
      (andThen .nack x).advance.endsLike n z)
    (wrote : ∀ x v, x.advance.tracks v i (k + 1) n → x.whV = s.whV → x.wlV = s.wlV → pseudoRmw en j u = (v, none) →
      (andThen .ok x).advance.endsLike n z) : s.endsLike (n + 2) z := by
  refine h.endsLike_of_exec hread ?_
  have h1 := h.afterRead Reg.alsConf
  rw [rmwRead, h.readOutcome_eq]
  cases hr : u.readOutcome Reg.alsConf with
  | err c => exact readFailed c _ _ h1 (by simp only [pseudoRmw, hr])
  | ok conf =>
    replace h1 := h1.sequencer (k + 1) conf s.count s.whV s.wlV
    refine h1.rmwWrite_endsLike (conf := conf) rfl (hwrite _ h1.stepIx) fun x hx hwh hwl => ?_
    cases hw : (u.afterRead Reg.alsConf).writeOutcome Reg.alsConf (AlsConf.withIntEn en conf) with
    | nack => exact nacked _ _ hx (by simp only [pseudoRmw, hr, hw])
    | ok => exact wrote _ _ hx hwh hwl (by simp only [pseudoRmw, hr, hw])

theorem setIntEn_endsLike {en : BitVec 1} (h : s.tracks u (.setIntEn en) 0 7) :
    s.endsLike 7 (pseudoSetIntEn en u) := by
  refine h.rmw_endsLike (n := 5) (j := 0) (exec_setIntEn_read h.stepIx) (fun y hy => exec_setIntEn_write hy)
    (fun c x v hx he => ?_) (fun x v hx he => ?_) (fun x v hx _ _ he => ?_) <;> simp only [pseudoSetIntEn, he]
  · exact hx.ends_busError c.cause 0 Reg.alsConf
  · exact hx.ends_busError .writeNack 1 Reg.alsConf
  · exact hx.ends_ok 0

theorem release_endsLike (h : s.tracks u .release 0 7) : s.endsLike 7 (pseudoRelease u) := by
  have done : ∀ {x v : State} {k : BitVec 3} {n : Nat}, x.advance.tracks v .release k n →
      (releaseDone x).advance.endsLike n (releaseDone v) := fun hx => hx.ends releaseDone (fun _ => rfl) fun _ => nofun
  refine h.rmw_endsLike (n := 5) (j := 0) (exec_release_read h.stepIx) (fun y hy => exec_release_write hy)
    (fun c x v hx he => ?_) (fun x v hx he => ?_) (fun x v hx _ _ he => ?_) <;> simp only [pseudoRelease, he] <;>
    exact done hx

/-! ## ARM_THRESHOLD -/

/-- A threshold write of ARM_THRESHOLD: a failure ends the command, a success goes on with the next transaction. -/
theorem armWrite_endsLike (h : s.tracks u i k (n + 1)) {reg : RegAddr} {w : Word}
    (hx : exec i s = .next (armGoOn k reg (s.writeOutcome reg w) (s.afterWrite reg w)))
    (nacked : u.writeOutcome reg w = .nack → z = (u.afterWrite reg w).raiseBusError .writeNack (k.zeroExtend 4) reg)
    (wrote : ∀ y : State, u.writeOutcome reg w = .ok → y.tracks (u.afterWrite reg w) i (k + 1) n → y.whV = s.whV →
      y.wlV = s.wlV → y.endsLike n z) : s.endsLike (n + 1) z := by
  refine h.endsLike_of_exec hx ?_
  rw [h.writeOutcome_eq]
  have h1 := h.afterWrite reg w
  cases ho : u.writeOutcome reg w with
  | nack => rw [nacked ho]; exact h1.ends_busError .writeNack (k.zeroExtend 4) reg
  | ok => exact wrote _ ho (h1.sequencer (k + 1) _ _ _ _) rfl rfl

/-- ARM_THRESHOLD from its transaction 3 on: both thresholds, then the interrupt is enabled again. -/
theorem armWrites_endsLike {p : Int} {wh wl : Word} (h : s.tracks u (.armThreshold p) 3 4) (hwh : s.whV = wh)
    (hwl : s.wlV = wl) : s.endsLike 4 (pseudoArmWrites wh wl u) := by
  subst hwh hwl
  refine h.armWrite_endsLike (exec_armThreshold_wh h.stepIx) (fun hw => by simp only [pseudoArmWrites, hw]; rfl)
    fun s4 hw h4 hwh4 hwl4 => ?_
  refine h4.armWrite_endsLike (exec_armThreshold_wl h4.stepIx)
    (fun hl => by simp only [pseudoArmWrites, hw, ← hwl4, hl]; rfl) fun s5 hl h5 hwh5 hwl5 => ?_
  rw [hwl4] at hl h5 hwl5
  rw [hwh4] at hwh5
  refine h5.rmw_endsLike (n := 0) (j := 5) (exec_armThreshold_enable_read h5.stepIx)
    (fun y hy => exec_armThreshold_enable_write hy)
    (fun c x v hx he => ?_) (fun x v hx he => ?_) (fun x v hx hwh hwl he => ?_) <;>
    simp only [pseudoArmWrites, hw, hl, he]
  · exact hx.ends_busError c.cause 5 Reg.alsConf
  · exact hx.ends_busError .writeNack 6 Reg.alsConf
  · simp only [armDone, hwh, hwl, hwh5, hwl5]
    exact hx.ends_ok _

theorem armThreshold_endsLike {p : Int} (h : s.tracks u (.armThreshold p) 0 7) : s.endsLike 7 (pseudoArm p u) := by
  by_cases hp : p ≤ 0
  · refine h.endsLike_of_exec (exec_armThreshold_refused h.stepIx hp) ?_
    rw [pseudoArm, if_pos hp]
    exact h.advance.ends (·.fail .invalidArgument 0) (fun _ => rfl) fun _ => nofun
  · refine h.endsLike_of_exec (exec_armThreshold_count h.stepIx (by omega)) ?_
    have h1 := h.afterRead Reg.als
    simp only [armReadCount, pseudoArm, if_neg hp, h.readOutcome_eq]
    cases u.readOutcome Reg.als with
    | err c => exact h1.ends_busError c.cause 0 Reg.als
    | ok count =>
      replace h1 := h1.sequencer 1 s.confW count (window count p).1 (window count p).2
      refine h1.rmw_endsLike (n := 4) (j := 1) (exec_armThreshold_disable_read h1.stepIx)
        (fun y hy => exec_armThreshold_disable_write hy)
        (fun c x v hx he => ?_) (fun x v hx he => ?_) (fun x v hx hwh hwl he => ?_) <;> simp only [he]
      · exact hx.ends_busError c.cause 1 Reg.alsConf
      · exact hx.ends_busError .writeNack 2 Reg.alsConf
      · exact (hx.sequencer 3 _ _ _ _).armWrites_endsLike hwh hwl

/-! ## BEGIN -/

/-- A write of BEGIN goes on whatever its outcome (spec 41_device_state.md R151, R153). -/
theorem beginWrite_endsLike (h : s.tracks u .begin k (n + 1)) {reg : RegAddr} {w : Word}
    (hx : exec .begin s = .next (beginWrite k reg w s))
    (next : ∀ y : State, y.tracks (u.afterWrite reg w) .begin (k + 1) n → y.endsLike n z) : s.endsLike (n + 1) z :=
  h.endsLike_of_exec hx
    (next _ ((h.afterWrite reg w).sequencer (k + 1) _ _ _ _))

/-- The end of BEGIN's pseudocode: LENS 1.0 and CONFIGURED. -/
theorem beginDone_endsLike (h : s.tracks u .begin 6 (n + 1)) :
    s.endsLike (n + 1)
      ({ u.afterWrite Reg.psm 0x0000 with lens := lensOne, state := .configured }.finish .ok 0 0) :=
  h.endsLike_of_exec (exec_begin_psm h.stepIx)
    ((h.afterWrite Reg.psm 0x0000).ends (fun y => { y with lens := lensOne, state := .configured }.finish .ok 0 0)
      (fun _ => rfl) fun _ => by simp)

theorem begin_endsLike (h : s.tracks u .begin 0 7) : s.endsLike 7 (pseudoBegin u) := by
  refine h.beginWrite_endsLike (exec_begin_wl h.stepIx) fun s1 h1 => ?_
  refine h1.beginWrite_endsLike (exec_begin_wl_again h1.stepIx) fun s2 h2 => ?_
  refine h2.endsLike_of_exec (exec_begin_probe h2.stepIx) ?_
  have h3 := h2.afterRead Reg.ident
  simp only [beginProbe, pseudoBegin, h2.readOutcome_eq]
  cases ((u.afterWrite Reg.wl 0x0000).afterWrite Reg.wl 0x0000).readOutcome Reg.ident with
  | err c =>
    exact h3.ends (fun y => { y with state := .failed }.raiseBusError c.cause 2 Reg.ident) (fun _ => rfl) fun _ => by simp
  | ok w =>
    by_cases hid : lowByte w = 0x83
    · have hmatch : idMatches w = true := decide_eq_true hid
      simp only [hmatch, hid, if_true, ne_eq, not_true_eq_false, if_false]
      refine (h3.sequencer 3 _ _ _ _).beginWrite_endsLike (exec_begin_conf rfl) fun s4 h4 => ?_
      refine h4.beginWrite_endsLike (exec_begin_wh h4.stepIx) fun s5 h5 => ?_
      refine h5.beginWrite_endsLike (exec_begin_wl_last h5.stepIx) fun s6 h6 => ?_
      exact h6.beginDone_endsLike
    · have hmatch : idMatches w = false := decide_eq_false hid
      simp only [hmatch, hid, ne_eq, not_false_eq_true, if_true, Bool.false_eq_true, if_false]
      exact h3.ends (fun y => { y with state := .failed }.fail .identityMismatch 0x0726) (fun _ => rfl) fun _ => by simp

/-! ## GET_LENS and SET_LENS -/

theorem getLens_endsLike (h : s.tracks u .getLens 0 7) : s.endsLike 7 (u.finish .ok (u.lens.zeroExtend 64) 0) := by
  refine h.endsLike_of_exec rfl ?_
  rw [h.lens_eq]
  exact h.advance.ends_ok _

theorem setLens_endsLike {w : Lens} (h : s.tracks u (.setLens w) 0 7) :
    s.endsLike 7 ({ u with lens := w }.finish .ok 0 0) :=
  h.endsLike_of_exec rfl
    (h.advance.ends (fun y => { y with lens := w }.finish .ok 0 0) (fun _ => rfl) fun _ => by simp)

end State.tracks

/-- Every command's run, from its acceptance on, ends as its pseudocode does. -/
theorem State.tracks.pseudocode_endsLike {s u : State} {i : Instr} (h : s.tracks u i 0 7) :
    s.endsLike 7 (pseudocode i u) := by
  cases i with
  | begin => exact h.begin_endsLike
  | readWord reg => exact h.readThenFinish_endsLike (exec_readWord h.stepIx)
  | writeWord reg w => exact h.writeThenFinish_endsLike (exec_writeWord h.stepIx)
  | readAls => exact h.readThenFinish_endsLike (exec_readAls h.stepIx)
  | getLux => exact h.getLux_endsLike
  | setIntEn en => exact h.setIntEn_endsLike
  | armThreshold p => exact h.armThreshold_endsLike
  | readClearFlags => exact h.readThenFinish_endsLike (exec_readClearFlags h.stepIx)
  | getLens => exact h.getLens_endsLike
  | setLens w => exact h.setLens_endsLike
  | release => exact h.release_endsLike

/-- Settles O49: at its acceptance the machine tracks the pseudocode's first state, which is its own. -/
theorem microStepsRunThePseudocode : Obligations.MicroStepsRunThePseudocode :=
  fun _ _ h => (State.tracks_of_hasAccepted h).pseudocode_endsLike

end Sys2Proof.Machine
end

section
/-! PROOFS. The words that the invariant speaks of: the operands that the decoder gives (spec 30_encoding.md R94), the
fields of ERR (60_exceptions.md R252), the values of RESULT (10_state.md R31) and the threshold window (43_interrupt.md
R215, R217). -/

namespace Sys2Proof.Machine

/-! ## Operands -/

/-- Every command that the decoder gives has operands that fit. -/
theorem decode_wellFormed {w : CmdWord} {i : Instr} (h : decode w = some i) : i.WellFormed := by
  cases i with
  | armThreshold p =>
    have hp : ((CmdWord.data w).signExtend 32).toInt = p := by
      unfold decode require at h
      split at h
      · cases h
      · split at h <;> simp_all
    rw [BitVec.toInt_signExtend_of_le (by decide)] at hp
    have hlow := BitVec.le_toInt (CmdWord.data w)
    have hhigh := BitVec.toInt_lt (x := CmdWord.data w)
    rw [Instr.WellFormed]
    omega
  | _ => trivial

/-! ## ERR -/

section
variable (c : Cause) (k : BitVec 4) (reg : RegAddr)

theorem errWord_cause : (errWord c k reg).extractLsb' 0 4 = c.code := by
  ext j hj
  simp [errWord, show j < 8 by omega, show j < 16 by omega, hj]

theorem errWord_step : (errWord c k reg).extractLsb' 4 4 = k := by
  ext j hj
  simp [errWord, show 4 + j < 8 by omega, show 4 + j < 16 by omega, show ¬ 4 + j < 4 by omega,
    BitVec.getLsbD_eq_getElem hj]

theorem errWord_reg : (errWord c k reg).extractLsb' 8 8 = reg := by
  ext j hj
  have hk : k.getLsbD (8 + j - 4) = false := BitVec.getLsbD_of_ge _ _ (by omega)
  have hc : c.code.getLsbD (8 + j) = false := BitVec.getLsbD_of_ge _ _ (by omega)
  simp [errWord, hj, show 8 + j < 16 by omega, hk, hc]

end

/-- Settles O37: the fields of ERR do not overlap, and the codes are the listed ones. -/
theorem errHoldsCauseStepAndRegister : Obligations.ErrHoldsCauseStepAndRegister :=
  ⟨fun c k reg => ⟨errWord_cause c k reg, errWord_step c k reg, errWord_reg c k reg⟩, by decide, by decide⟩

/-! ## RESULT -/

theorem toNat_zeroExtend_lt {n : Nat} (x : BitVec n) (m : Nat) : (x.zeroExtend m).toNat < 2 ^ n := by
  rw [BitVec.zeroExtend, BitVec.toNat_setWidth]
  exact (Nat.mod_le _ _).trans_lt x.isLt

/-- A value of a successful command is not negative. -/
theorem msb_eq_false_of_lt {v : BitVec 64} (h : v.toNat < 2 ^ 58) : v.msb = false :=
  BitVec.msb_eq_false_iff_two_mul_lt.2 (by omega)

/-! ## The threshold window -/

/-- The exact high threshold with its increment, before the clamp (spec 43_interrupt.md R215). -/
def highThreshold (count : Word) (p : Int) : Rat :=
  if windowTooNarrow ((count.toNat : Rat) * (100 + p) / 100) ((count.toNat : Rat) * (100 - p) / 100) then
    (count.toNat : Rat) * (100 + p) / 100 + 1
  else (count.toNat : Rat) * (100 + p) / 100

/-- The exact low threshold, before the clamp (spec 43_interrupt.md R215). -/
def lowThreshold (count : Word) (p : Int) : Rat := (count.toNat : Rat) * (100 - p) / 100

section
variable {count : Word} {p : Int}

/-- WH_V is the high threshold, clamped and floored: the cast to 16 bits loses nothing. -/
theorem window_fst_toNat (h : 0 ≤ highThreshold count p) :
    ((window count p).1.toNat : Int) = ⌊min (highThreshold count p) 65535⌋ := by
  have hlow : (0 : Int) ≤ ⌊min (highThreshold count p) 65535⌋ := Int.floor_nonneg.2 (le_min h (by norm_num))
  have hhigh : ⌊min (highThreshold count p) 65535⌋ ≤ 65535 :=
    Int.floor_le_iff.2 (by push_cast; exact (min_le_right _ _).trans_lt (by norm_num))
  change ((BitVec.ofInt 16 ⌊min (highThreshold count p) 65535⌋).toNat : Int) = _
  rw [BitVec.toNat_ofInt]
  omega

/-- WL_V is the low threshold, clamped and floored: the cast to 16 bits loses nothing. -/
theorem window_snd_toNat (h : lowThreshold count p ≤ 65535) :
    ((window count p).2.toNat : Int) = ⌊max (lowThreshold count p) 0⌋ := by
  have hlow : (0 : Int) ≤ ⌊max (lowThreshold count p) 0⌋ := Int.floor_nonneg.2 (le_max_right _ _)
  have hhigh : ⌊max (lowThreshold count p) 0⌋ ≤ 65535 :=
    Int.floor_le_iff.2 (by push_cast; exact (max_le h (by norm_num)).trans_lt (by norm_num))
  change ((BitVec.ofInt 16 ⌊max (lowThreshold count p) 0⌋).toNat : Int) = _
  rw [BitVec.toNat_ofInt]
  omega

/-- The increment makes the exact window at least 1 wide. -/
theorem lowThreshold_add_one_le_highThreshold (hp : 0 < p) : lowThreshold count p + 1 ≤ highThreshold count p := by
  have hp1 : (1 : Rat) ≤ p := by exact_mod_cast hp
  have hc : (0 : Rat) ≤ count.toNat := by positivity
  unfold highThreshold lowThreshold
  split
  · nlinarith
  · rename_i h
    simp only [windowTooNarrow, decide_eq_true_eq, not_lt] at h
    linarith

theorem count_le_highThreshold (hp : 0 < p) : (count.toNat : Rat) ≤ highThreshold count p := by
  have hp1 : (1 : Rat) ≤ p := by exact_mod_cast hp
  have hcp : (count.toNat : Rat) ≤ count.toNat * (100 + p) / 100 := by nlinarith
  unfold highThreshold
  split <;> linarith

/-- A count of 0 gets its high threshold from the increment. -/
theorem one_le_highThreshold (hp : 0 < p) : 1 ≤ highThreshold count p := by
  by_cases hc : 1 ≤ count.toNat
  · exact le_trans (by exact_mod_cast hc) (count_le_highThreshold hp)
  · have h0 : count.toNat = 0 := by omega
    norm_num [highThreshold, windowTooNarrow, h0]

/-- The high clamp leaves room above the low threshold, which is at most 99 % of the count. -/
theorem lowThreshold_le (hp : 0 < p) : lowThreshold count p ≤ 65534 := by
  have hc : (count.toNat : Rat) ≤ 65535 := by exact_mod_cast Nat.le_of_lt_succ count.isLt
  have hp1 : (1 : Rat) ≤ p := by exact_mod_cast hp
  have hprod : (count.toNat : Rat) * (100 - p) ≤ count.toNat * 99 :=
    mul_le_mul_of_nonneg_left (by linarith) (by positivity)
  rw [lowThreshold]
  linarith

/-- The window stays at least 1 wide when it is clamped and floored (spec 43_interrupt.md R217). -/
theorem window_snd_add_one_le_fst (hp : 0 < p) : (window count p).2.toNat + 1 ≤ (window count p).1.toNat := by
  have hone := one_le_highThreshold (count := count) hp
  have hlow := lowThreshold_le (count := count) hp
  have hclamped : max (lowThreshold count p) 0 + 1 ≤ min (highThreshold count p) 65535 := by
    rw [← max_add_add_right]
    exact max_le (le_min (lowThreshold_add_one_le_highThreshold hp) (by linarith))
      (le_min (by linarith) (by norm_num))
  have hfloored := Int.floor_le_floor hclamped
  rw [Int.floor_add_one, ← window_fst_toNat (zero_le_one.trans hone), ← window_snd_toNat (by linarith)] at hfloored
  omega

end

end Sys2Proof.Machine
end

section
/-! PROOFS. What a micro-step can do to the registers that the host sees (spec 10_state.md R21 to R31, 60_exceptions.md
R251, R252): one inversion lemma for every command. -/

namespace Sys2Proof.Machine

/-- From `s` to `u` the command `i` has given `STATE` and `LENS` the values with which it succeeds: SET_LENS writes its
operand (spec 41_device_state.md R162), the last transaction of BEGIN configures (R152), RELEASE goes back (R156), and
any other leaves both. -/
inductive Succeeds (i : Instr) (s u : State) : Prop where
  | kept (notBegin : i ≠ .begin) (state : u.state = s.state) (lens : u.lens = s.lens)
  | setLens (cmd : i = .setLens u.lens) (state : u.state = s.state)
  | begin (cmd : i = .begin) (last : s.stepIx = 6) (state : u.state = .configured) (lens : u.lens = lensOne)
  | release (cmd : i = .release) (state : u.state = .uninit) (lens : u.lens = lensOne)

/-- From `s` to `u` the identity probe of BEGIN has failed: no word was read, or one that does not match (R152). -/
structure FailsProbe (i : Instr) (s u : State) : Prop where
  cmd : i = .begin
  probe : s.stepIx = 2
  unmatched : ∀ w, s.readOutcome Reg.ident = .ok w → idMatches w = false
  state : u.state = .failed

/-- A micro-step of `i` from `s` goes on with the next transaction, the host seeing nothing of it, or ends the command
with one of its outcomes: OK, a bus error, BEGIN's identity mismatch, or ARM_THRESHOLD's refusal of its argument. In an
ending, `u` is the state in which the outcome is written. A first transaction of ARM_THRESHOLD computes a window that is
not empty, a later one keeps it. -/
inductive MicroStep (i : Instr) (s : State) : State → Prop where
  | goesOn {t : State} (more : s.stepIx.toNat + 1 < transactions i) (next : t.stepIx.toNat = s.stepIx.toNat + 1)
      (window : ∀ p, i = .armThreshold p → (s.stepIx ≠ 0 → s.wlV < s.whV) → t.wlV < t.whV)
      (state : t.state = s.state) (lens : t.lens = s.lens) (status : t.status = s.status)
      (result : t.result = s.result) (err : t.err = s.err) : MicroStep i s t
  | done {u : State} {v : BitVec 64} (bound : v.toNat < 2 ^ 58) (small : i ≠ .getLux → v.toNat < 2 ^ 32)
      (succeeds : Succeeds i s u) : MicroStep i s (u.finish .ok v 0)
  | busError {u : State} {c : Cause} {k : BitVec 4} {reg : RegAddr} (cause : c ≠ .idMismatch) (step : k ≤ 6)
      (state : FailsProbe i s u ∨ i ≠ .begin ∧ u.state = s.state) (lens : u.lens = s.lens) :
      MicroStep i s (u.raiseBusError c k reg)
  | mismatch {u : State} (probe : FailsProbe i s u) (lens : u.lens = s.lens) :
      MicroStep i s (u.fail .identityMismatch 0x0726)
  | refused (notBegin : i ≠ .begin) : MicroStep i s (s.fail .invalidArgument 0)

theorem ReadCause.cause_ne_idMismatch (c : ReadCause) : c.cause ≠ .idMismatch := by cases c <;> decide

namespace MicroStep

variable {i : Instr} {s u : State}

/-! ## The shared endings -/

/-- A command other than BEGIN fails with `STATE` and `LENS` as they were. -/
theorem busError_kept {c : Cause} {k : BitVec 4} {reg : RegAddr} (cause : c ≠ .idMismatch) (step : k ≤ 6)
    (notBegin : i ≠ .begin) (state : u.state = s.state) (lens : u.lens = s.lens) :
    MicroStep i s (u.raiseBusError c k reg) := .busError cause step (.inr ⟨notBegin, state⟩) lens

/-- A result below 2^32 is one of any command. -/
theorem done_small {v : BitVec 64} (small : v.toNat < 2 ^ 32) (succeeds : Succeeds i s u) :
    MicroStep i s (u.finish .ok v 0) := .done (by omega) (fun _ => small) succeeds

/-! ## The parts of commands -/

theorem of_readThenFinish {reg : RegAddr} {value : Word → BitVec 64} (hi : i ≠ .begin)
    (hv : ∀ w, (value w).toNat < 2 ^ 32) : MicroStep i s (readThenFinish reg value s) := by
  obtain ⟨c, -, he⟩ | ⟨w, -, he⟩ := readThenFinish_cases reg value s <;> rw [he]
  · exact busError_kept c.cause_ne_idMismatch (by decide) hi rfl rfl
  · exact done_small (hv w) (.kept hi rfl rfl)

theorem of_writeThenFinish {reg : RegAddr} {v : Word} (hi : i ≠ .begin) : MicroStep i s (writeThenFinish reg v s) := by
  unfold writeThenFinish
  split
  · exact busError_kept (by decide) (by decide) hi rfl rfl
  · exact done_small (by decide) (.kept hi rfl rfl)

/-- The read half of the RMW at the transaction `k`. -/
theorem of_rmwRead {onFail : ReadCause → State → State} {k : BitVec 3}
    (hfail : ∀ c, MicroStep i s (onFail c (s.afterRead Reg.alsConf))) (more : s.stepIx.toNat + 1 < transactions i)
    (next : (k + 1).toNat = s.stepIx.toNat + 1) (window : ∀ p, i = .armThreshold p → s.stepIx ≠ 0) :
    MicroStep i s (rmwRead onFail k s) := by
  obtain ⟨c, -, he⟩ | ⟨w, -, he⟩ := rmwRead_cases onFail k s <;> rw [he]
  · exact hfail c
  · exact .goesOn more next (fun p hp h => h (window p hp)) rfl rfl rfl rfl rfl

/-- A write of ARM_THRESHOLD that another transaction follows. -/
theorem of_armGoOn {k : BitVec 3} {reg r : RegAddr} {v : Word} {o : WriteOutcome} {p : Int}
    (hk : k.zeroExtend 4 ≤ (6 : BitVec 4)) (more : s.stepIx.toNat + 1 < 7)
    (next : (k + 1).toNat = s.stepIx.toNat + 1) (window : s.stepIx ≠ 0) :
    MicroStep (.armThreshold p) s (armGoOn k reg o (s.afterWrite r v)) := by
  cases o with
  | nack => exact busError_kept (by decide) hk nofun rfl rfl
  | ok => exact .goesOn more next (fun _ _ h => h window) rfl rfl rfl rfl rfl

theorem of_beginWrite {k : BitVec 3} {reg : RegAddr} {v : Word} (more : s.stepIx.toNat + 1 < 7)
    (next : (k + 1).toNat = s.stepIx.toNat + 1) : MicroStep .begin s (beginWrite k reg v s) :=
  .goesOn more next nofun rfl rfl rfl rfl rfl

theorem of_beginProbe (h : s.stepIx.toNat = 2) : MicroStep .begin s (beginProbe s) := by
  have hprobe : s.stepIx = 2 := BitVec.eq_of_toNat_eq h
  unfold beginProbe
  cases hread : s.readOutcome Reg.ident with
  | err c => exact .busError c.cause_ne_idMismatch (by decide) (.inl ⟨rfl, hprobe, by simp [hread], rfl⟩) rfl
  | ok w =>
    by_cases hid : idMatches w = true
    · simp only [hid, if_true]
      exact .goesOn (by simp [h, transactions]) (by simp [h]) nofun rfl rfl rfl rfl rfl
    · simp only [hid]
      exact .mismatch ⟨rfl, hprobe, by simpa [hread] using hid, rfl⟩ rfl

theorem of_releaseDone : MicroStep .release s (releaseDone u) :=
  done_small (by decide) (.release rfl rfl rfl)

/-! ## The commands -/

theorem of_execBegin {t : State} (h : execBegin s = .next t) : MicroStep .begin s t := by
  unfold execBegin at h
  split at h <;> cases h
  · exact of_beginWrite (by omega) (by simp [*])
  · exact of_beginWrite (by omega) (by simp [*])
  · exact of_beginProbe ‹_›
  · exact of_beginWrite (by omega) (by simp [*])
  · exact of_beginWrite (by omega) (by simp [*])
  · exact of_beginWrite (by omega) (by simp [*])
  · exact done_small (by decide) (.begin rfl (BitVec.eq_of_toNat_eq ‹_›) rfl rfl)

/-- The first transaction of ARM_THRESHOLD computes a window that is not empty (spec 43_interrupt.md R217). -/
theorem of_armReadCount {p : Int} (hp : 0 < p) (h : s.stepIx.toNat = 0) :
    MicroStep (.armThreshold p) s (armReadCount p s) := by
  unfold armReadCount
  split
  · next c _ => exact busError_kept c.cause_ne_idMismatch (by decide) nofun rfl rfl
  · next w _ =>
    have hwindow : (window w p).2 < (window w p).1 := BitVec.lt_def.2 (window_snd_add_one_le_fst hp)
    exact .goesOn (by simp [h, transactions]) (by simp [h]) (fun _ _ _ => hwindow) rfl rfl rfl rfl rfl

theorem of_execGetLux {t : State} (h : execGetLux s = .next t) : MicroStep .getLux s t := by
  unfold execGetLux at h
  split at h <;> cases h
  · unfold getLuxConf
    split
    · next c _ => exact busError_kept c.cause_ne_idMismatch (by decide) nofun rfl rfl
    · exact .goesOn (by simp [*, transactions]) (by simp [*]) nofun rfl rfl rfl rfl rfl
  · unfold getLuxCount
    split
    · next c _ => exact busError_kept c.cause_ne_idMismatch (by decide) nofun rfl rfl
    · exact .done (toNat_zeroExtend_lt _ 64) (absurd rfl) (.kept nofun rfl rfl)

theorem of_execSetIntEn {en : BitVec 1} {t : State} (h : execSetIntEn en s = .next t) :
    MicroStep (.setIntEn en) s t := by
  unfold execSetIntEn at h
  split at h <;> cases h
  · exact of_rmwRead (fun c => busError_kept c.cause_ne_idMismatch (by decide) nofun rfl rfl)
      (by simp [*, transactions]) (by simp [*]) nofun
  · unfold rmwWrite
    cases s.writeOutcome Reg.alsConf (AlsConf.withIntEn en s.confW) with
    | nack => exact busError_kept (by decide) (by decide) nofun rfl rfl
    | ok => exact done_small (by decide) (.kept nofun rfl rfl)

theorem of_execArmThreshold {p : Int} {t : State} (h : execArmThreshold p s = .next t) :
    MicroStep (.armThreshold p) s t := by
  have later {n : Nat} (hn : s.stepIx.toNat = n + 1) : s.stepIx ≠ 0 := fun h0 => by simp [h0] at hn
  unfold execArmThreshold at h
  split at h <;> cases h
  · split
    · next hp => exact of_armReadCount (by simpa [argumentOk] using hp) ‹_›
    · exact .refused nofun
  · exact of_rmwRead (fun c => busError_kept c.cause_ne_idMismatch (by decide) nofun rfl rfl)
      (by simp [*, transactions]) (by simp [*]) (fun _ _ => later ‹_›)
  · exact of_armGoOn (by decide) (by omega) (by simp [*]) (later ‹_›)
  · exact of_armGoOn (by decide) (by omega) (by simp [*]) (later ‹_›)
  · exact of_armGoOn (by decide) (by omega) (by simp [*]) (later ‹_›)
  · exact of_rmwRead (fun c => busError_kept c.cause_ne_idMismatch (by decide) nofun rfl rfl)
      (by simp [*, transactions]) (by simp [*]) (fun _ _ => later ‹_›)
  · unfold rmwWrite
    cases s.writeOutcome Reg.alsConf (AlsConf.withIntEn 1 s.confW) with
    | nack => exact busError_kept (by decide) (by decide) nofun rfl rfl
    | ok => exact done_small (toNat_zeroExtend_lt _ 64) (.kept nofun rfl rfl)

theorem of_execRelease {t : State} (h : execRelease s = .next t) : MicroStep .release s t := by
  unfold execRelease at h
  split at h <;> cases h
  · exact of_rmwRead (fun _ => of_releaseDone) (by simp [*, transactions]) (by simp [*]) nofun
  · exact of_releaseDone

end MicroStep

/-- Every micro-step that a meaning gives is one of these. -/
theorem exec_microStep {i : Instr} {s t : State} (h : exec i s = .next t) : MicroStep i s t := by
  cases i with
  | begin => exact .of_execBegin h
  | readWord reg =>
    simp only [exec, execReadWord] at h
    split at h <;> cases h
    exact .of_readThenFinish nofun fun w => (toNat_zeroExtend_lt w 64).trans (by decide)
  | writeWord reg v =>
    simp only [exec, execWriteWord] at h
    split at h <;> cases h
    exact .of_writeThenFinish nofun
  | readAls =>
    simp only [exec, execReadAls] at h
    split at h <;> cases h
    exact .of_readThenFinish nofun fun w => (toNat_zeroExtend_lt w 64).trans (by decide)
  | getLux => exact .of_execGetLux h
  | setIntEn en => exact .of_execSetIntEn h
  | armThreshold p => exact .of_execArmThreshold h
  | readClearFlags =>
    simp only [exec, execReadClearFlags] at h
    split at h <;> cases h
    exact .of_readThenFinish nofun fun w => by split <;> decide
  | getLens => cases h; exact .done_small (toNat_zeroExtend_lt _ 64) (.kept nofun rfl rfl)
  | setLens v => cases h; exact .done_small (by decide) (.setLens rfl rfl)
  | release => exact .of_execRelease h

end Sys2Proof.Machine
end

section
/-! PROOFS. What the host sees of a step (spec 10_state.md R21 to R33): where a meaning stops, the output ports, when
RESULT, ERR and LENS change, and what RESULT says. -/

namespace Sys2Proof.Machine

/-! ## Where a meaning stops -/

/-- A meaning stops exactly where `STEP` is none of the command's transactions. -/
theorem exec_eq_fault_iff (i : Instr) (s : State) :
    exec i s = .fault .stepOutOfRange ↔ transactions i ≠ 0 ∧ transactions i ≤ s.stepIx.toNat := by
  cases i with
  | getLens | setLens => simp [exec, execGetLens, execSetLens, transactions]
  | _ =>
    simp only [exec, execBegin, execReadWord, execWriteWord, execReadAls, execGetLux, execSetIntEn, execArmThreshold,
      execReadClearFlags, execRelease, transactions]
    generalize s.stepIx.toNat = n
    split <;> grind

/-- Settles O36: every transaction that `STEP` can select has its arm. -/
theorem meaningStopsOnlyBeyondItsTransactions : Obligations.MeaningStopsOnlyBeyondItsTransactions := by
  refine fun i s => ⟨exec_eq_fault_iff i s, fun r hr => ?_⟩
  obtain ⟨t, ht⟩ | hf := exec_next_or_fault i s
  · simp [ht] at hr
  · simp [hf] at hr

/-! ## The output ports -/

theorem Status.code_injective : Function.Injective Status.code := by
  intro a b
  cases a <;> cases b <;> decide

theorem InitState.code_injective : Function.Injective InitState.code := by
  intro a b
  cases a <;> cases b <;> decide

/-- Settles O14: the codes of STATUS and of STATE are different for different values. -/
theorem outputPortsShowTheRegisters : Obligations.OutputPortsShowTheRegisters := by
  have hstatus : ∀ p ∈ [(Status.ok, (0 : BitVec 3)), (.busError, 1), (.identityMismatch, 2), (.invalidArgument, 3),
      (.illegalCommand, 4), (.running, 6), (.none, 7)], p.1.code = p.2 := by decide
  have hstate : ∀ p ∈ [(InitState.uninit, (0 : BitVec 2)), (.probing, 1), (.configured, 2), (.failed, 3)],
      p.1.code = p.2 := by decide
  refine fun s => ⟨by simp [State.outputs, State.busy], rfl, rfl, fun st c h => ?_, fun x c h => ?_⟩
  · obtain rfl : st.code = c := hstatus _ h
    exact Status.code_injective.eq_iff.symm
  · obtain rfl : x.code = c := hstate _ h
    exact InitState.code_injective.eq_iff.symm

/-! ## What changes RESULT, ERR and LENS -/

namespace MicroStep

variable {i : Instr} {s t : State}

/-- A micro-step leaves the host's outputs as they were or ends the command. -/
theorem outputs_kept_or_ended (h : MicroStep i s t) :
    (t.status = s.status ∧ t.result = s.result ∧ t.err = s.err) ∨ t.status ≠ .running := by
  cases h with
  | goesOn _ _ _ _ _ status result err => exact .inl ⟨status, result, err⟩
  | done | busError | mismatch | refused => exact .inr (by simp)

/-- A command that ends with OK has a value of its range, and one that fails has SENTINEL. -/
theorem result_of_ended (h : MicroStep i s t) (running : s.status = .running) (ended : t.status ≠ .running) :
    (t.status = .ok ∧ t.result.toNat < 2 ^ 58 ∧ (i ≠ .getLux → t.result.toNat < 2 ^ 32)) ∨
      (t.status ≠ .ok ∧ t.result = sentinel) := by
  cases h with
  | goesOn _ _ _ _ _ status => exact absurd (status.trans running) ended
  | done bound small => exact .inl ⟨rfl, bound, small⟩
  | busError | mismatch | refused => exact .inr ⟨by simp, rfl⟩

/-- A micro-step leaves `LENS` as it was, but for the last one of a command that writes it. -/
theorem lens_kept_or_written (h : MicroStep i s t) :
    t.lens = s.lens ∨ i = .setLens t.lens ∨
      (i = .begin ∧ s.stepIx = 6 ∧ t.state = .configured ∧ t.lens = lensOne) ∨
      (i = .release ∧ t.state = .uninit ∧ t.lens = lensOne) := by
  cases h with
  | goesOn _ _ _ _ lens => exact .inl lens
  | busError _ _ _ lens | mismatch _ lens => exact .inl lens
  | refused => exact .inl rfl
  | done _ _ succeeds =>
    cases succeeds with
    | kept _ _ lens => exact .inl lens
    | setLens cmd => exact .inr (.inl cmd)
    | begin cmd last state lens => exact .inr (.inr (.inl ⟨cmd, last, state, lens⟩))
    | release cmd state lens => exact .inr (.inr (.inr ⟨cmd, state, lens⟩))

end MicroStep

/-- Settles O15: without a reset, only a micro-step can write RESULT and ERR, and it then ends the command. -/
theorem outputsChangeOnlyAtFinish : Obligations.OutputsChangeOnlyAtFinish := by
  intro s t hr h hne
  obtain ⟨hreset, -⟩ | ⟨-, hb, t', hrun, rfl⟩ | ⟨-, -, -, rfl⟩ | ⟨-, -, -, rfl⟩ := step_cases h
  · simp [hr] at hreset
  · refine ⟨hb, ?_⟩
    obtain ⟨i, -, he⟩ | ⟨-, rfl⟩ := runCur_cases hrun
    · obtain ⟨-, hresult, herr⟩ | hended := (exec_microStep he).outputs_kept_or_ended
      · simp [hresult, herr] at hne
      · exact hended
    · simp
  · simp at hne
  · simp at hne

/-- Settles O17: the kinds of step, and of the micro-steps the ends of SET_LENS, BEGIN and RELEASE. -/
theorem lensWritersAreTheListedOnes : Obligations.LensWritersAreTheListedOnes := by
  intro s t h hne
  obtain ⟨hr, rfl⟩ | ⟨-, hb, t', hrun, rfl⟩ | ⟨-, -, -, rfl⟩ | ⟨-, -, -, rfl⟩ := step_cases h
  · exact .inl ⟨hr, rfl⟩
  · obtain ⟨i, hc, he⟩ | ⟨-, rfl⟩ := runCur_cases hrun
    · obtain hkept | rfl | ⟨rfl, hlast, hstate, hlens⟩ | ⟨rfl, hstate, hlens⟩ :=
        (exec_microStep he).lens_kept_or_written
      · exact absurd hkept hne
      · exact .inr (.inl ⟨hb, hc⟩)
      · exact .inr (.inr (.inl ⟨hb, hc, hlast, hstate, hlens⟩))
      · exact .inr (.inr (.inr ⟨hb, hc, hstate, hlens⟩))
    · exact absurd rfl hne
  · exact absurd rfl hne
  · exact absurd rfl hne

/-- A micro-step that ends a command gives OK with a value of its range, or a failure with SENTINEL. -/
theorem runCur_result_of_ended {s t : State} (h : runCur s = .next t) (running : s.status = .running)
    (ended : t.status ≠ .running) :
    (t.status = .ok ∧ t.result.toNat < 2 ^ 58 ∧ (s.cur ≠ some .getLux → t.result.toNat < 2 ^ 32)) ∨
      (t.status ≠ .ok ∧ t.result = sentinel) := by
  obtain ⟨i, hc, he⟩ | ⟨-, rfl⟩ := runCur_cases h
  · simpa [hc] using (exec_microStep he).result_of_ended running ended
  · exact .inr ⟨by simp, rfl⟩

/-- Settles O38: the values of the successful commands leave bit 63 clear, and SENTINEL sets it. -/
theorem resultSignTellsFailure : Obligations.ResultSignTellsFailure := by
  intro s t hr hb h hended
  obtain ⟨t', hrun, rfl⟩ := thenAdvance_eq_next.1 (step_busy s hr hb ▸ h)
  simp only [State.advance_status, State.advance_result] at hended ⊢
  obtain ⟨hok, hbound, hsmall⟩ | ⟨hfail, hresult⟩ := runCur_result_of_ended hrun hb hended
  · have hsign : t'.result.getLsbD 63 = false := msb_eq_false_of_lt hbound
    exact ⟨fun hne => absurd hok hne, fun _ => ⟨hbound, hsmall⟩, by simp only [hsign, hok]; simp⟩
  · simp [hfail, hresult, sentinel]

end Sys2Proof.Machine
end

section
/-! PROOFS. What no meaning reads: `STATE` (spec 10_state.md R23) and the host's port (R33). -/

namespace Sys2Proof.Machine

/-- An ILLEGAL word runs to its completion. -/
theorem runCur_of_illegal {s : State} (h : s.cur = none) : runCur s = .next s.failIllegal := by
  simp [runCur, h]

/-! ## What a micro-step does not look at -/

/-- The state with another value of `STATE` and other inputs to come from the host. -/
def State.withUnread (s : State) (x : InitState) (l : List PortIn) : State := { s with state := x, script := l }

section
variable (s : State) (x : InitState) (l : List PortIn) (reg : RegAddr) (v : Word)

@[simp] theorem State.withUnread_readOutcome : (s.withUnread x l).readOutcome reg = s.readOutcome reg := rfl
@[simp] theorem State.withUnread_writeOutcome : (s.withUnread x l).writeOutcome reg v = s.writeOutcome reg v := rfl
@[simp] theorem State.withUnread_stepIx : (s.withUnread x l).stepIx = s.stepIx := rfl

end

/-- Two outcomes of a command from states that differ in `STATE` (`x` in the second) and in the host's inputs (`l` in
the second): the command leaves `STATE` in both as it was, or writes the same value in both, and all else is the same. -/
inductive Alike (s : State) (x : InitState) (l : List PortIn) :
    Host.Outcome State Fault Refusal → Host.Outcome State Fault Refusal → Prop where
  | kept {t : State} (h : t.state = s.state) : Alike s x l (.next t) (.next (t.withUnread x l))
  | written {t : State} : Alike s x l (.next t) (.next (t.withUnread t.state l))
  | fault {r : Fault} : Alike s x l (.fault r) (.fault r)

section
variable {s : State} {x : InitState} {l : List PortIn} {reg : RegAddr}

/-! ### The parts of commands -/

theorem readThenFinish_alike {value : Word → BitVec 64} :
    Alike s x l (.next (readThenFinish reg value s)) (.next (readThenFinish reg value (s.withUnread x l))) := by
  unfold readThenFinish
  rw [State.withUnread_readOutcome]
  cases s.readOutcome reg <;> exact .kept rfl

theorem writeThenFinish_alike {v : Word} :
    Alike s x l (.next (writeThenFinish reg v s)) (.next (writeThenFinish reg v (s.withUnread x l))) := by
  unfold writeThenFinish
  rw [State.withUnread_writeOutcome]
  cases s.writeOutcome reg v <;> exact .kept rfl

theorem getLuxConf_alike : Alike s x l (.next (getLuxConf s)) (.next (getLuxConf (s.withUnread x l))) := by
  unfold getLuxConf
  rw [State.withUnread_readOutcome]
  cases s.readOutcome Reg.alsConf <;> exact .kept rfl

theorem getLuxCount_alike : Alike s x l (.next (getLuxCount s)) (.next (getLuxCount (s.withUnread x l))) := by
  unfold getLuxCount
  rw [State.withUnread_readOutcome]
  cases s.readOutcome Reg.als <;> exact .kept rfl

theorem rmwRead_alike {onFail : ReadCause → State → State} {k : BitVec 3}
    (hfail : ∀ c, Alike s x l (.next (onFail c (s.afterRead Reg.alsConf)))
      (.next (onFail c ((s.afterRead Reg.alsConf).withUnread x l)))) :
    Alike s x l (.next (rmwRead onFail k s)) (.next (rmwRead onFail k (s.withUnread x l))) := by
  unfold rmwRead
  rw [State.withUnread_readOutcome]
  cases s.readOutcome Reg.alsConf with
  | ok w => exact .kept rfl
  | err c => exact hfail c

theorem rmwWrite_alike {andThen : WriteOutcome → State → State} {en : BitVec 1}
    (hthen : ∀ o u, u.state = s.state →
      Alike s x l (.next (andThen o u)) (.next (andThen o (u.withUnread x l)))) :
    Alike s x l (.next (rmwWrite en andThen s)) (.next (rmwWrite en andThen (s.withUnread x l))) :=
  hthen _ (s.afterWrite _ _) rfl

theorem setIntEnDone_alike {o : WriteOutcome} {u : State} (h : u.state = s.state) :
    Alike s x l (.next (setIntEnDone o u)) (.next (setIntEnDone o (u.withUnread x l))) := by
  cases o <;> exact .kept h

theorem armReadCount_alike {p : Int} :
    Alike s x l (.next (armReadCount p s)) (.next (armReadCount p (s.withUnread x l))) := by
  unfold armReadCount
  rw [State.withUnread_readOutcome]
  cases s.readOutcome Reg.als <;> exact .kept rfl

theorem armGoOn_alike {k : BitVec 3} {o : WriteOutcome} {u : State} (h : u.state = s.state) :
    Alike s x l (.next (armGoOn k reg o u)) (.next (armGoOn k reg o (u.withUnread x l))) := by
  cases o <;> exact .kept h

theorem armDone_alike {o : WriteOutcome} {u : State} (h : u.state = s.state) :
    Alike s x l (.next (armDone o u)) (.next (armDone o (u.withUnread x l))) := by
  cases o <;> exact .kept h

/-- The probe gives `STATE` the value `FAILED` or leaves it. -/
theorem beginProbe_alike : Alike s x l (.next (beginProbe s)) (.next (beginProbe (s.withUnread x l))) := by
  unfold beginProbe
  rw [State.withUnread_readOutcome]
  cases s.readOutcome Reg.ident with
  | err c => exact .written
  | ok w =>
    by_cases hid : idMatches w = true
    · simp only [hid, if_true]
      exact .kept rfl
    · simp only [hid]
      exact .written

/-! ### The commands -/

theorem execBegin_alike : Alike s x l (execBegin s) (execBegin (s.withUnread x l)) := by
  unfold execBegin
  rw [State.withUnread_stepIx]
  split
  · exact .kept rfl
  · exact .kept rfl
  · exact beginProbe_alike
  · exact .kept rfl
  · exact .kept rfl
  · exact .kept rfl
  · exact .written
  · exact .fault

theorem execGetLux_alike : Alike s x l (execGetLux s) (execGetLux (s.withUnread x l)) := by
  unfold execGetLux
  rw [State.withUnread_stepIx]
  split
  · exact getLuxConf_alike
  · exact getLuxCount_alike
  · exact .fault

theorem execSetIntEn_alike {en : BitVec 1} :
    Alike s x l (execSetIntEn en s) (execSetIntEn en (s.withUnread x l)) := by
  unfold execSetIntEn
  rw [State.withUnread_stepIx]
  split
  · exact rmwRead_alike fun _ => .kept rfl
  · exact rmwWrite_alike fun _ _ => setIntEnDone_alike
  · exact .fault

theorem execArmThreshold_alike {p : Int} :
    Alike s x l (execArmThreshold p s) (execArmThreshold p (s.withUnread x l)) := by
  unfold execArmThreshold
  rw [State.withUnread_stepIx]
  split
  · by_cases hp : argumentOk p = true
    · simp only [hp, if_true]
      exact armReadCount_alike
    · simp only [hp]
      exact .kept rfl
  · exact rmwRead_alike fun _ => .kept rfl
  · exact rmwWrite_alike fun _ _ => armGoOn_alike
  · exact armGoOn_alike (u := s.afterWrite Reg.wh s.whV) rfl
  · exact armGoOn_alike (u := s.afterWrite Reg.wl s.wlV) rfl
  · exact rmwRead_alike fun _ => .kept rfl
  · exact rmwWrite_alike fun _ _ => armDone_alike
  · exact .fault

theorem execRelease_alike : Alike s x l (execRelease s) (execRelease (s.withUnread x l)) := by
  unfold execRelease
  rw [State.withUnread_stepIx]
  split
  · exact rmwRead_alike fun _ => .written
  · exact .written
  · exact .fault

/-- No meaning reads `STATE` or the host's port. -/
theorem exec_alike (i : Instr) : Alike s x l (exec i s) (exec i (s.withUnread x l)) := by
  cases i with
  | begin => exact execBegin_alike
  | readWord reg =>
    simp only [exec, execReadWord, State.withUnread_stepIx]
    split
    · exact readThenFinish_alike
    · exact .fault
  | writeWord reg v =>
    simp only [exec, execWriteWord, State.withUnread_stepIx]
    split
    · exact writeThenFinish_alike
    · exact .fault
  | readAls =>
    simp only [exec, execReadAls, State.withUnread_stepIx]
    split
    · exact readThenFinish_alike
    · exact .fault
  | getLux => exact execGetLux_alike
  | setIntEn en => exact execSetIntEn_alike
  | armThreshold p => exact execArmThreshold_alike
  | readClearFlags =>
    simp only [exec, execReadClearFlags, State.withUnread_stepIx]
    split
    · exact readThenFinish_alike
    · exact .fault
  | getLens => exact .kept rfl
  | setLens v => exact .kept rfl
  | release => exact execRelease_alike

theorem runCur_alike : Alike s x l (runCur s) (runCur (s.withUnread x l)) := by
  cases hc : s.cur with
  | none =>
    rw [runCur_of_illegal hc, runCur_of_illegal (s := s.withUnread x l) hc]
    exact .kept rfl
  | some i =>
    rw [runCur_of_cur hc, runCur_of_cur (s := s.withUnread x l) hc]
    exact exec_alike i

end

/-! ## What a micro-step leaves as it was -/

theorem AtMostOneTransaction.kept {s t : State} (h : AtMostOneTransaction s t) :
    t.slaveAddr = s.slaveAddr ∧ t.cur = s.cur ∧ t.script = s.script := by
  cases h with
  | none h | read _ h | write _ _ h =>
    obtain ⟨hslave, hcur, -, -, -, hscript, -⟩ := State.txPart_eq_iff.1 h
    exact ⟨hslave, hcur, hscript⟩

/-- Settles O39: a meaning leaves `STATE` as it is, whatever it is, or writes the same value whatever it was. -/
theorem stateIsNoGuard : Obligations.StateIsNoGuard := by
  intro i s t x h
  obtain ⟨-, -, hscript⟩ := (exec_atMostOneTransaction h).kept
  have halike : Alike s x s.script (.next t) (exec i { s with state := x }) := h ▸ exec_alike i
  generalize exec i { s with state := x } = o at halike ⊢
  cases halike with
  | kept hstate => exact ⟨_, rfl, by simp [State.withUnread, ← hscript], fun hne => absurd hstate hne⟩
  | written => exact ⟨_, rfl, by simp [State.withUnread, ← hscript], fun _ => rfl⟩

/-! ## Acceptance -/

/-- What a busy block does is the same whatever it is offered at its port. -/
theorem thenAdvance_runCur_script (s : State) (p q : PortIn) (ps : List PortIn) :
    thenAdvance (runCur { s with script := p :: ps }) = thenAdvance (runCur { s with script := q :: ps }) := by
  have halike : Alike { s with script := p :: ps } s.state (q :: ps) (runCur { s with script := p :: ps })
      (runCur { s with script := q :: ps }) := runCur_alike
  generalize ho : runCur { s with script := p :: ps } = o at halike
  generalize runCur { s with script := q :: ps } = o' at halike
  cases halike with
  | fault => rfl
  | kept hstate =>
    obtain ⟨-, -, hscript⟩ := (runCur_atMostOneTransaction ho).kept
    simp [thenAdvance, State.advance, State.withUnread, hscript, ← hstate]
  | written =>
    obtain ⟨-, -, hscript⟩ := (runCur_atMostOneTransaction ho).kept
    simp [thenAdvance, State.advance, State.withUnread, hscript]

/-- Settles O9: the equations of an acceptance and of a busy step, whose micro-step does not read the port. -/
theorem acceptanceOnlyWhenIdle : Obligations.AcceptanceOnlyWhenIdle := by
  refine ⟨fun s hr hb hv => ?_, fun s p q ps hb hp hq => ?_, fun s t hr hb h => ?_, fun s hr hb hc => ?_⟩
  · rw [step_accept hr hb hv]
    rfl
  · rw [step_busy { s with script := p :: ps } hp hb, step_busy { s with script := q :: ps } hq hb,
      thenAdvance_runCur_script]
  · obtain ⟨t', hrun, rfl⟩ := thenAdvance_eq_next.1 (step_busy s hr hb ▸ h)
    obtain ⟨-, hcur, -⟩ := (runCur_atMostOneTransaction hrun).kept
    exact hcur
  · rw [step_busy s hr hb, runCur_of_illegal hc]
    rfl

end Sys2Proof.Machine
end

section
/-! PROOFS. The invariant of the machine: it holds at reset and every step keeps it (spec 10_state.md R22 to R31,
41_device_state.md R150, 43_interrupt.md R217). -/

namespace Sys2Proof.Machine

/-! ## The bus -/

/-- The clauses of the invariant on the bus: every call names the sensor, and the record of writes is canonical. -/
structure State.BusInv (s : State) : Prop where
  slave : s.slaveAddr = 0x29
  addressed : ∀ c ∈ s.wire, c.addresses 0x29
  canonical : s.written.wf

theorem State.BusInv.afterRead {s : State} (h : s.BusInv) (reg : RegAddr) : (s.afterRead reg).BusInv where
  slave := h.slave
  addressed := by
    intro c hc
    rw [State.afterRead_wire, List.mem_append, h.slave] at hc
    obtain hc | hc := hc
    · exact h.addressed c hc
    · obtain rfl | rfl | rfl | rfl := readTransaction_addresses _ _ _ _ _ hc <;> simp [TxCall.addresses]
  canonical := h.canonical

theorem State.BusInv.afterWrite {s : State} (h : s.BusInv) (reg : RegAddr) (v : Word) :
    (s.afterWrite reg v).BusInv where
  slave := h.slave
  addressed := by
    intro c hc
    rw [State.afterWrite_wire, List.mem_append, h.slave] at hc
    obtain hc | hc := hc
    · exact h.addressed c hc
    · obtain rfl := List.mem_singleton.1 hc
      rfl
  canonical := Memory.wf_note h.canonical _ _ _

theorem State.BusInv.of_txPart_eq {s t : State} (h : s.BusInv) (ht : t.txPart = s.txPart) : t.BusInv := by
  obtain ⟨hslave, -, -, hwire, hwritten, -⟩ := State.txPart_eq_iff.1 ht
  exact ⟨hslave ▸ h.slave, hwire ▸ h.addressed, hwritten ▸ h.canonical⟩

theorem AtMostOneTransaction.busInv {s t : State} (ht : AtMostOneTransaction s t) (h : s.BusInv) : t.BusInv := by
  cases ht with
  | none ht => exact h.of_txPart_eq ht
  | read reg ht => exact (h.afterRead reg).of_txPart_eq ht
  | write reg v ht => exact (h.afterWrite reg v).of_txPart_eq ht

theorem State.Inv.busInv {s : State} (h : s.Inv) : s.BusInv := ⟨h.slave, h.addressed, h.canonical⟩

/-! ## Reset, waiting and acceptance -/

/-- The block right after a reset meets the invariant, whatever was written to the sensor before. -/
theorem State.inv_resetBlock {s : State} (h : s.written.wf) : s.resetBlock.Inv where
  slave := rfl
  addressed := nofun
  canonical := h
  probing := by simp [State.probingMeansBegin]
  sequence := by simp [State.sequenced]
  outcome := by simp [State.outcomeRecorded]

/-- Settles O56: the reset state is one right after a reset. -/
theorem invariantHoldsAtReset : Obligations.InvariantHoldsAtReset :=
  State.inv_resetBlock (s := State.reset) Memory.wf_reset

/-- The inputs to come are in no clause. -/
theorem State.Inv.advance {s : State} (h : s.Inv) : s.advance.Inv :=
  ⟨h.slave, h.addressed, h.canonical, h.probing, h.sequence, h.outcome⟩

/-- Whatever `STATUS` is, the record of the last outcome is one that a running command may find. -/
theorem State.outcomeRecorded.sentinel_of_failed {s : State} (h : s.outcomeRecorded) :
    (s.result.msb = true → s.result = sentinel) ∧ (s.err ≠ 0 → s.result = sentinel) := by
  unfold State.outcomeRecorded at h
  split at h
  case h_6 => exact h
  all_goals simp_all

theorem State.Inv.accept {s : State} (h : s.Inv) (idle : s.status ≠ .running) (w : CmdWord) : (s.accept w).Inv where
  slave := h.slave
  addressed := h.addressed
  canonical := h.canonical
  probing := by
    have hs : s.state ≠ .probing := fun hp => idle (h.probing.1 hp).1
    by_cases hw : decode w = some .begin <;> simp [State.probingMeansBegin, hw, hs]
  sequence := fun _ i hi => ⟨decode_wellFormed hi, by simp, fun _ _ h0 => absurd rfl h0⟩
  outcome := h.outcome.sentinel_of_failed

/-! ## A micro-step -/

/-- Once a command has ended, the clauses on STATE and on the sequencer ask only that STATE is not `PROBING`. -/
theorem State.Inv.of_ended {t : State} (bus : t.BusInv) (ended : t.status ≠ .running) (state : t.state ≠ .probing)
    (outcome : t.outcomeRecorded) : t.Inv where
  slave := bus.slave
  addressed := bus.addressed
  canonical := bus.canonical
  probing := iff_of_false state fun h => ended h.1
  sequence := fun h => absurd h ended
  outcome := outcome

/-- Only BEGIN runs in `PROBING`. -/
theorem State.Inv.state_ne_probing {s : State} (h : s.Inv) {i : Instr} (cur : s.cur = some i) (hi : i ≠ .begin) :
    s.state ≠ .probing := fun hp => hi (by simpa [cur] using (h.probing.1 hp).2)

theorem Succeeds.state_ne_probing {i : Instr} {s u : State} (hu : Succeeds i s u) (h : s.Inv) (cur : s.cur = some i) :
    u.state ≠ .probing := by
  cases hu with
  | kept hi state => exact state ▸ h.state_ne_probing cur hi
  | setLens hi state => exact state ▸ h.state_ne_probing cur (hi ▸ nofun)
  | begin _ _ state => simp [state]
  | release _ state => simp [state]

theorem MicroStep.inv {i : Instr} {s t : State} (ht : MicroStep i s t) (h : s.Inv) (running : s.status = .running)
    (cur : s.cur = some i) (bus : t.BusInv) (tcur : t.cur = s.cur) : t.Inv := by
  cases ht with
  | goesOn more next window state lens status result err =>
    refine ⟨bus.slave, bus.addressed, bus.canonical, ?_, ?_, ?_⟩
    · simpa [State.probingMeansBegin, state, status, tcur] using h.probing
    · intro _ j hj
      obtain rfl : i = j := by simpa [tcur, cur] using hj
      obtain ⟨wf, -, hwindow⟩ := h.sequence running i cur
      exact ⟨wf, next ▸ lt_max_of_lt_right more, fun p hp _ => window p hp (hwindow p hp)⟩
    · simpa [State.outcomeRecorded, status, running, result, err] using h.outcome.sentinel_of_failed
  | done bound _ succeeds =>
    exact .of_ended bus (by simp) (succeeds.state_ne_probing h cur) ⟨msb_eq_false_of_lt bound, rfl⟩
  | busError cause step state =>
    refine .of_ended bus (by simp) ?_ ⟨rfl, _, _, _, cause, step, rfl⟩
    obtain probe | ⟨hi, kept⟩ := state
    · simp [probe.state]
    · exact kept ▸ h.state_ne_probing cur hi
  | mismatch probe => exact .of_ended bus (by simp) (by simp [probe.state]) ⟨rfl, rfl, probe.state⟩
  | refused hi => exact .of_ended bus (by simp) (h.state_ne_probing cur hi) ⟨rfl, rfl⟩

/-- An ILLEGAL word completes outside `PROBING`, which only BEGIN holds. -/
theorem State.Inv.failIllegal {s : State} (h : s.Inv) (cur : s.cur = none) : s.failIllegal.Inv :=
  .of_ended (h.busInv.of_txPart_eq rfl) (by simp) (fun hp => by simpa [cur] using (h.probing.1 hp).2) ⟨rfl, rfl⟩

theorem runCur_inv {s t : State} (h : s.Inv) (running : s.status = .running) (ht : runCur s = .next t) : t.Inv := by
  obtain ⟨i, cur, he⟩ | ⟨cur, rfl⟩ := runCur_cases ht
  · have htx := exec_atMostOneTransaction he
    obtain ⟨-, tcur, -⟩ := htx.kept
    exact (exec_microStep he).inv h running cur (htx.busInv h.busInv) tcur
  · exact h.failIllegal cur

/-- Settles O57, by the kinds of step. -/
theorem everyStepKeepsTheInvariant : Obligations.EveryStepKeepsTheInvariant := by
  intro s t h hstep
  obtain ⟨-, rfl⟩ | ⟨-, hb, t', hrun, rfl⟩ | ⟨-, hb, -, rfl⟩ | ⟨-, -, -, rfl⟩ := step_cases hstep
  · exact (State.inv_resetBlock h.canonical).advance
  · exact (runCur_inv h hb hrun).advance
  · exact (h.accept hb _).advance
  · exact h.advance

end Sys2Proof.Machine
end

section
/-! PROOFS. The word transactions: the byte order on the wire (spec 20_memory.md R61, 40_transport.md R128) and what
they leave in the device register space as written (20_memory.md R62, R68; log entry 7). -/

namespace Sys2Proof.Machine

/-! ## Byte order -/

theorem lowByte_toNat (v : Word) : (lowByte v).toNat = v.toNat % 256 := by
  simp [lowByte, BitVec.extractLsb'_toNat]

theorem highByte_toNat (v : Word) : (highByte v).toNat = v.toNat / 256 := by
  have hv : v.toNat < 65536 := v.isLt
  rw [highByte, BitVec.extractLsb'_toNat, Nat.shiftRight_eq_div_pow]
  omega

/-- A word's value, read as the spec's "w = hi << 8 | lo". -/
theorem wordOfBytes_toNat (lo hi : Byte) : (wordOfBytes lo hi).toNat = hi.toNat * 256 + lo.toNat := by
  have hword : wordOfBytes lo hi = hi ++ lo := by
    rw [BitVec.append_def, BitVec.shiftLeftZeroExtend_eq, BitVec.setWidth'_eq]
    rfl
  rw [hword, BitVec.toNat_append, ← Nat.shiftLeft_add_eq_or_of_lt lo.isLt, Nat.shiftLeft_eq]

/-! ## The frames of a transaction -/

/-- Whatever its outcome, a read begins by sending the register byte alone. -/
theorem readTransaction_head (limit : Nat) (slave : BusAddr) (reg : RegAddr) (a : BusAnswer) :
    (readTransaction limit slave reg a).2.head? = some (.txWrite slave [reg] false) := by
  obtain ⟨-, he⟩ | ⟨-, -, he⟩ | ⟨-, -, he⟩ | ⟨-, -, -, he⟩ | ⟨-, -, k, -, -, -, he⟩ :=
    readTransaction_cases limit slave reg a <;> rw [he] <;> rfl

/-- A read can return no word but the one of the two bytes received. -/
theorem readTransaction_word {limit : Nat} {slave : BusAddr} {reg : RegAddr} {a : BusAnswer} {w : Word}
    (h : (readTransaction limit slave reg a).1 = .ok w) : w = wordOfBytes a.byte0 a.byte1 := by
  obtain ⟨-, he⟩ | ⟨-, -, he⟩ | ⟨-, -, he⟩ | ⟨-, -, -, he⟩ | ⟨-, -, k, -, -, -, he⟩ :=
    readTransaction_cases limit slave reg a <;> rw [he] at h <;> cases h
  rfl

/-- Settles O23: the bytes sent are `lowByte` and `highByte`, the word received is `wordOfBytes`. -/
theorem lowByteIsFramedFirst : Obligations.LowByteIsFramedFirst :=
  ⟨fun _ _ v _ => ⟨lowByte v, highByte v, rfl, lowByte_toNat v, highByte_toNat v⟩,
    fun slave r a limit _ => ⟨readTransaction_head limit slave r a,
      fun h => readTransaction_word h ▸ wordOfBytes_toNat a.byte0 a.byte1⟩⟩

/-! ## The device register space as written -/

/-- Settles O24: only a successful write puts bytes there, and those are its word's two. -/
theorem transactionsWriteOnlyTheirRegister : Obligations.TransactionsWriteOnlyTheirRegister := by
  refine fun s reg v a => ⟨by rw [State.afterRead_written], fun hnack => ?_, fun hlo hhi => ?_, fun hok => ?_⟩
  · rw [State.afterWrite_written, hnack, Memory.note]
  · exact s.written.readByte_note reg v _ a ⟨hlo, hhi⟩
  · simp [hok, Memory.note, Memory.readByte_writeWord, lowByte, highByte]

end Sys2Proof.Machine
end

section
/-! PROOFS. A command that ends in one micro-step, and then a second one that the host presents right after it (spec
10_state.md R27, R33). -/

namespace Sys2Proof

/-! ## The fields of a packed command word (R90) -/

section
open BitVec (extractLsb'_append_eq_of_le extractLsb'_append_eq_left extractLsb'_append_eq_right)

variable (op rsv : BitVec 4) (reg : RegAddr) (data : Word) (arg : BitVec 32)

@[simp] theorem CmdWord.op_pack : (CmdWord.pack op rsv reg data arg).op = op :=
  extractLsb'_append_eq_right
@[simp] theorem CmdWord.rsv_pack : (CmdWord.pack op rsv reg data arg).rsv = rsv :=
  (extractLsb'_append_eq_of_le (by decide)).trans extractLsb'_append_eq_right
@[simp] theorem CmdWord.reg_pack : (CmdWord.pack op rsv reg data arg).reg = reg :=
  (extractLsb'_append_eq_of_le (by decide)).trans <|
    (extractLsb'_append_eq_of_le (by decide)).trans extractLsb'_append_eq_right
@[simp] theorem CmdWord.data_pack : (CmdWord.pack op rsv reg data arg).data = data :=
  (extractLsb'_append_eq_of_le (by decide)).trans <| (extractLsb'_append_eq_of_le (by decide)).trans <|
    (extractLsb'_append_eq_of_le (by decide)).trans extractLsb'_append_eq_right
@[simp] theorem CmdWord.arg_pack : (CmdWord.pack op rsv reg data arg).arg = arg :=
  (extractLsb'_append_eq_of_le (by decide)).trans <| (extractLsb'_append_eq_of_le (by decide)).trans <|
    (extractLsb'_append_eq_of_le (by decide)).trans extractLsb'_append_eq_left

end

theorem decode_encode_readWord (reg : RegAddr) : decode (encode (.readWord reg)) = some (.readWord reg) := by
  simp [encode, decode, require]

end Sys2Proof

namespace Sys2Proof.Machine

/-! ## One command -/

/-- A micro-step uses up none of the host's inputs; `step` does. -/
theorem AtMostOneTransaction.portAt_eq {s t : State} (h : AtMostOneTransaction s t) (k : Nat) :
    t.portAt k = s.portAt k := by
  cases h with
  | none h | read _ h | write _ _ h =>
    obtain ⟨-, -, -, -, -, hscript, htick, -⟩ := State.txPart_eq_iff.1 h
    rw [State.portAt, hscript, htick]
    rfl

/-- A running command whose coming micro-step ends it. -/
theorem untilIdle_of_last {i : Instr} {s x : State} (hr : s.portNow.rst = false) (busy : s.status = .running)
    (cur : s.cur = some i) (hx : exec i s = .next x) (ended : x.status ≠ .running) (n : Nat) :
    untilIdle (n + 1) s = .next x.advance := by
  have hstep : step s = .next x.advance := by rw [step_busy s hr busy, runCur_of_cur cur, hx]; rfl
  rw [untilIdle_of_step busy hstep, untilIdle_of_idle (s := x.advance) ended]

theorem readThenFinish_ended (reg : RegAddr) (value : Word → BitVec 64) (s : State) :
    (readThenFinish reg value s).status ≠ .running := by
  obtain ⟨_, -, he⟩ | ⟨_, -, he⟩ := readThenFinish_cases reg value s <;> rw [he] <;> nofun

theorem writeThenFinish_ended (reg : RegAddr) (v : Word) (s : State) :
    (writeThenFinish reg v s).status ≠ .running := by
  unfold writeThenFinish
  split <;> nofun

theorem readThenFinish_trace (reg : RegAddr) (value : Word → BitVec 64) (s : State) :
    (readThenFinish reg value s).trace = s.trace ++ [.read reg (s.readOutcome reg)] :=
  congrArg State.trace (readThenFinish_txPart reg value s)

theorem writeThenFinish_trace (reg : RegAddr) (v : Word) (s : State) :
    (writeThenFinish reg v s).trace = s.trace ++ [.write reg v (s.writeOutcome reg v)] :=
  congrArg State.trace (writeThenFinish_txPart reg v s)

theorem readThenFinish_of_ok {reg : RegAddr} {s : State} {w : Word} (value : Word → BitVec 64)
    (h : s.readOutcome reg = .ok w) : readThenFinish reg value s = (s.afterRead reg).finish .ok (value w) 0 := by
  simp [readThenFinish, h]

theorem writeThenFinish_of_ok {reg : RegAddr} {s : State} {v : Word} (h : s.writeOutcome reg v = .ok) :
    writeThenFinish reg v s = (s.afterWrite reg v).finish .ok 0 0 := by
  simp [writeThenFinish, h]

/-! ## Then another -/

/-- The state in which the command `j` has been accepted in the step after the last micro-step of a command, `x` being
what that micro-step left. -/
def State.thenAccepts (x : State) (j : Instr) : State := (x.advance.accept (encode j)).advance

section
variable (x : State) (j : Instr)

@[simp] theorem State.thenAccepts_stepIx : (x.thenAccepts j).stepIx = 0 := rfl
@[simp] theorem State.thenAccepts_trace : (x.thenAccepts j).trace = x.trace := rfl

end

/-- A command `i` that ends in its first micro-step, and then a command `j` that the host presents at once and that ends
in its first micro-step too. -/
theorem State.hasAccepted.runs_two {i j : Instr} {s x y : State} (h : s.hasAccepted i)
    (hv : (s.portAt 1).cmdValid = true) (hw : (s.portAt 1).cmdWord = encode j) (hj : decode (encode j) = some j)
    (hx : exec i s = .next x) (xended : x.status ≠ .running)
    (hy : exec j (x.thenAccepts j) = .next y) (yended : y.status ≠ .running) :
    untilIdle 7 s = .next x.advance ∧ step x.advance = .next (x.thenAccepts j) ∧
      untilIdle 7 (x.thenAccepts j) = .next y.advance := by
  obtain ⟨busy, cur, -, quiet⟩ := h
  have port (k : Nat) : x.portAt k = s.portAt k := (exec_atMostOneTransaction hx).portAt_eq k
  have port1 : x.advance.portNow = s.portAt 1 := (x.portAt_advance 0).trans (port 1)
  have port2 : (x.thenAccepts j).portNow = s.portAt 2 :=
    (x.advance.portAt_advance 0).trans ((x.portAt_advance 1).trans (port 2))
  refine ⟨untilIdle_of_last (quiet 0 (by decide)) busy cur hx xended 6, ?_, ?_⟩
  · rw [step_accept (s := x.advance) (port1 ▸ quiet 1 (by decide)) xended (port1 ▸ hv), port1, hw]
    rfl
  · exact untilIdle_of_last (port2 ▸ quiet 2 (by decide)) rfl hj hy yended 6

/-- A command that makes one transaction, and then READ_WORD: the run's events are that transaction and the read, and a
word that the read returns is the result. -/
theorem State.hasAccepted.then_readWord {i : Instr} {r : RegAddr} {s x : State} {e : BusEvent} (h : s.hasAccepted i)
    (hv : (s.portAt 1).cmdValid = true) (hw : (s.portAt 1).cmdWord = encode (.readWord r))
    (hx : exec i s = .next x) (ended : x.status ≠ .running) (trace : x.trace = s.trace ++ [e]) :
    ∃ t' u o, untilIdle 7 s = .next x.advance ∧ step x.advance = .next t' ∧ untilIdle 7 t' = .next u ∧
      s.added u [e, .read r o] ∧ ∀ w, o = .ok w → u.status = .ok ∧ u.result = w.zeroExtend 64 := by
  obtain ⟨hi, hstep, hj⟩ := h.runs_two hv hw (decode_encode_readWord r) hx ended
    (exec_readWord (x.thenAccepts_stepIx _)) (readThenFinish_ended r _ _)
  refine ⟨_, _, (x.thenAccepts (.readWord r)).readOutcome r, hi, hstep, hj, ?_, fun w ho => ?_⟩
  · rw [State.added, State.advance_trace, readThenFinish_trace, State.thenAccepts_trace, trace, List.append_assoc]
    rfl
  · rw [readThenFinish_of_ok _ ho]
    exact ⟨rfl, rfl⟩

end Sys2Proof.Machine
end

section
/-! PROOFS. What the premise `DeviceEcho` says of reads of the four writable registers (spec 20_memory.md R66, R67, R77;
log entry 16). -/

namespace Sys2Proof.Machine

/-! ## The premise, event by event -/

theorem deviceEcho_write {m : Memory} {r : RegAddr} {v : Word} {o : WriteOutcome} {es : List BusEvent} :
    DeviceEcho m (.write r v o :: es) ↔ o = .ok ∧ DeviceEcho (m.writeWord r v) es := by
  cases o <;> simp [DeviceEcho]

theorem deviceEcho_read {m : Memory} {r : RegAddr} {o : ReadOutcome} {es : List BusEvent} :
    DeviceEcho m (.read r o :: es) ↔ ∃ w, o = .ok w ∧ (r ≤ 3 → ∀ v, m.readWord r = some v → w = v) ∧
      DeviceEcho (if r ≤ 3 then m.writeWord r w else m) es := by
  cases o <;> simp [DeviceEcho]

/-! ## A known word stays known until the next write -/

theorem Memory.readWord_writeWord_same (m : Memory) (r : RegAddr) (v : Word) :
    (m.writeWord r v).readWord r = some v := by
  simp [readWord_writeWord]

theorem Memory.readWord_writeWord_of_ne {m : Memory} {r r' : RegAddr} (h : r ≠ r') (v : Word) :
    (m.writeWord r' v).readWord r = m.readWord r := by
  simp [readWord_writeWord, h]

/-- A read teaches at most the word of its own register, and that is the one known before, where one was. -/
theorem Memory.readWord_after_read {m : Memory} {r r' : RegAddr} {v w : Word} (known : m.readWord r = some v)
    (echo : r' ≤ 3 → ∀ v', m.readWord r' = some v' → w = v') :
    (if r' ≤ 3 then m.writeWord r' w else m).readWord r = some v := by
  split
  · next hr' =>
    by_cases hr : r = r'
    · subst hr
      rw [readWord_writeWord_same, echo hr' v known]
    · rw [readWord_writeWord_of_ne hr, known]
  · exact known

/-- Where the word of a writable register is known, and no write to it comes between, a read returns that word. -/
theorem DeviceEcho.read_of_known {r : RegAddr} {v : Word} {o : ReadOutcome} {es : List BusEvent} {m : Memory}
    (hr : r ≤ 3) (unwritten : ∀ e ∈ es, ∀ w x, e ≠ .write r w x) (known : m.readWord r = some v)
    (h : DeviceEcho m (es ++ [.read r o])) : o = .ok v := by
  induction es generalizing m with
  | nil =>
    obtain ⟨w, rfl, echo, -⟩ := deviceEcho_read.1 h
    rw [echo hr v known]
  | cons e es ih =>
    obtain ⟨he, hes⟩ := List.forall_mem_cons.1 unwritten
    cases e with
    | read r' o' =>
      obtain ⟨w, -, echo, rest⟩ := deviceEcho_read.1 h
      exact ih hes (Memory.readWord_after_read known echo) rest
    | write r' v' o' =>
      obtain ⟨-, rest⟩ := deviceEcho_write.1 h
      have hne : r ≠ r' := fun heq => he v' o' (heq ▸ rfl)
      exact ih hes ((Memory.readWord_writeWord_of_ne hne v').trans known) rest

/-- A successful write makes the word known. -/
theorem DeviceEcho.read_after_write {m : Memory} {r : RegAddr} {v : Word} {x : WriteOutcome} {o : ReadOutcome}
    {es : List BusEvent} (hr : r ≤ 3) (unwritten : ∀ e ∈ es, ∀ w x, e ≠ .write r w x)
    (h : DeviceEcho m (.write r v x :: (es ++ [.read r o]))) : x = .ok ∧ o = .ok v := by
  obtain ⟨hx, rest⟩ := deviceEcho_write.1 h
  exact ⟨hx, rest.read_of_known hr unwritten (m.readWord_writeWord_same r v)⟩

/-- A read makes the word known too, also where nothing has written it. -/
theorem DeviceEcho.read_after_read {m : Memory} {r : RegAddr} {o o' : ReadOutcome} {es : List BusEvent} (hr : r ≤ 3)
    (unwritten : ∀ e ∈ es, ∀ w x, e ≠ .write r w x) (h : DeviceEcho m (.read r o :: (es ++ [.read r o']))) :
    ∃ w, o = .ok w ∧ o' = .ok w := by
  obtain ⟨w, ho, -, rest⟩ := deviceEcho_read.1 h
  rw [if_pos hr] at rest
  exact ⟨w, ho, rest.read_of_known hr unwritten (m.readWord_writeWord_same r w)⟩

/-! ## The obligations -/

/-- Settles O54: the write makes the word known; on the machine the two events are those of the two commands. -/
theorem roundTripUnderDeviceEcho : Obligations.RoundTripUnderDeviceEcho := by
  refine ⟨fun m r v o es hr apart h => ?_, fun r v s hr h hv hw => ?_⟩
  · exact (h.read_after_write hr fun e he => (apart e he).2).2
  · have ⟨_, _, first, _⟩ := h
    obtain ⟨t', u, o, ht, hstep, hu, added, result⟩ :=
      h.then_readWord hv hw (exec_writeWord first) (writeThenFinish_ended r v s) (writeThenFinish_trace r v s)
    refine ⟨_, t', u, _, ht, hstep, hu, added, fun echo => ?_⟩
    obtain ⟨hwrite, hread⟩ := DeviceEcho.read_after_write (es := []) hr nofun echo
    exact ⟨by rw [writeThenFinish_of_ok hwrite]; rfl, result v hread⟩

/-- Settles O59: the first read makes the word known; on the machine the two events are those of the two commands. -/
theorem readsAreIdempotentUnderDeviceEcho : Obligations.ReadsAreIdempotentUnderDeviceEcho := by
  refine ⟨fun m r o o' es hr unwritten h => ?_, fun r s hr h hv hw => ?_⟩
  · obtain ⟨w, rfl, rfl⟩ := h.read_after_read hr unwritten
    exact ⟨rfl, w, rfl⟩
  · have ⟨_, _, first, _⟩ := h
    obtain ⟨t', u, o, ht, hstep, hu, added, result⟩ :=
      h.then_readWord hv hw (exec_readWord first) (readThenFinish_ended r _ s) (readThenFinish_trace r _ s)
    refine ⟨_, t', u, _, ht, hstep, hu, added, fun echo => ?_⟩
    obtain ⟨w, hfirst, hsecond⟩ := DeviceEcho.read_after_read (es := []) hr nofun echo
    obtain ⟨ok, value⟩ := result w hsecond
    rw [readThenFinish_of_ok _ hfirst]
    exact ⟨rfl, ok, value⟩

end Sys2Proof.Machine
end

section
/-! PROOFS. The encoding: a word decodes to a command exactly when it is that command's word (spec 30_encoding.md R90 to
R95). -/

namespace Sys2Proof

/-! ## Parts of a bit vector -/

theorem append_eq_zero_iff {m n : Nat} {x : BitVec m} {y : BitVec n} : x ++ y = 0 ↔ x = 0 ∧ y = 0 := by
  rw [← BitVec.toNat_inj]
  simp [BitVec.toNat_append, ← BitVec.toNat_inj]

/-- A field is zero exactly when its lower and its upper part are. -/
theorem extractLsb'_add_eq_zero_iff {n : Nat} (x : BitVec n) (k lo hi : Nat) :
    x.extractLsb' k (hi + lo) = 0 ↔ x.extractLsb' k lo = 0 ∧ x.extractLsb' (k + lo) hi = 0 := by
  rw [← BitVec.extractLsb'_append_extractLsb'_eq_extractLsb' (x := x) (start₁ := k) (start₂ := k + lo) rfl,
    append_eq_zero_iff, and_comm]

/-- A field of a field. -/
theorem extractLsb'_extractLsb' {n : Nat} (x : BitVec n) {k m i j : Nat} (h : i + j ≤ m) :
    (x.extractLsb' k m).extractLsb' i j = x.extractLsb' (k + i) j := by
  ext b hb
  simp [show i + b < m by omega, Nat.add_assoc]

/-! ## A command word and its fields (R90) -/

/-- A command word is its five fields. -/
theorem CmdWord.pack_fields (w : CmdWord) : CmdWord.pack w.op w.rsv w.reg w.data w.arg = w := by
  have join (k m n : Nat) : w.extractLsb' (k + n) m ++ w.extractLsb' k n = w.extractLsb' k (m + n) :=
    BitVec.extractLsb'_append_extractLsb'_eq_extractLsb' rfl
  calc w.arg ++ w.data ++ w.reg ++ w.rsv ++ w.op
      = w.extractLsb' 16 48 ++ w.reg ++ w.rsv ++ w.op := by rw [← join 16 32 16]; rfl
    _ = w.extractLsb' 8 56 ++ w.rsv ++ w.op := by rw [← join 8 48 8]; rfl
    _ = w.extractLsb' 4 60 ++ w.op := by rw [← join 4 56 4]; rfl
    _ = w.extractLsb' 0 64 := join 0 60 4
    _ = w := BitVec.extractLsb'_eq_self

/-- The form in which the proofs below take a word apart. -/
theorem CmdWord.exists_pack (w : CmdWord) : ∃ op rsv reg data arg, w = CmdWord.pack op rsv reg data arg :=
  ⟨_, _, _, _, _, w.pack_fields.symm⟩

/-- Two command words are the same exactly when they agree field by field. -/
@[simp] theorem CmdWord.pack_inj {op op' rsv rsv' : BitVec 4} {reg reg' : RegAddr} {data data' : Word}
    {arg arg' : BitVec 32} : CmdWord.pack op rsv reg data arg = CmdWord.pack op' rsv' reg' data' arg' ↔
      op = op' ∧ rsv = rsv' ∧ reg = reg' ∧ data = data' ∧ arg = arg' := by
  refine ⟨fun h => ?_, ?_⟩
  · exact ⟨by simpa using congrArg CmdWord.op h, by simpa using congrArg CmdWord.rsv h,
      by simpa using congrArg CmdWord.reg h, by simpa using congrArg CmdWord.data h,
      by simpa using congrArg CmdWord.arg h⟩
  · rintro ⟨rfl, rfl, rfl, rfl, rfl⟩
    rfl

/-! ## The operands with a form of their own (R94) -/

/-- The percentage's 16-bit two's complement is read back as the percentage. -/
theorem toInt_ofInt_percentage {p : Int} (h : (Instr.armThreshold p).WellFormed) : (BitVec.ofInt 16 p).toInt = p := by
  obtain ⟨hlow, hhigh⟩ := h
  exact BitVec.toInt_ofInt_eq_self (by decide) hlow (by omega)

/-- Widening the percentage to 32 bits does not change it. -/
theorem toInt_signExtend_data (data : Word) : (data.signExtend 32).toInt = data.toInt :=
  BitVec.toInt_signExtend_of_le (by decide)

/-- The enable operand is the lowest bit of its field. -/
@[simp] theorem extractLsb'_low_setWidth (en : BitVec 1) : (en.setWidth 16).extractLsb' 0 1 = en := by
  revert en
  decide

/-- Above the enable operand its field has only zeros. -/
@[simp] theorem extractLsb'_high_setWidth (en : BitVec 1) : (en.setWidth 16).extractLsb' 1 15 = 0#15 := by
  revert en
  decide

/-- A word whose upper fifteen bits are 0 is its lowest bit. -/
theorem setWidth_low_of_high_eq_zero {data : Word} (h : data.extractLsb' 1 15 = 0) :
    (data.extractLsb' 0 1).setWidth 16 = data := by
  have hzero : ∀ b : BitVec 1, b.setWidth 16 = 0#15 ++ b := by decide
  calc (data.extractLsb' 0 1).setWidth 16
      = 0#15 ++ data.extractLsb' 0 1 := hzero _
    _ = data.extractLsb' 1 15 ++ data.extractLsb' 0 1 := by rw [h]; rfl
    _ = data := BitVec.extractLsb'_append_extractLsb'

/-! ## The decoder, opcode by opcode (R92) -/

@[simp] theorem require_eq_some_iff {c : Prop} [Decidable c] {i j : Instr} : require c i = some j ↔ c ∧ i = j := by
  simp [require]

@[simp] theorem require_eq_none_iff {c : Prop} [Decidable c] {i : Instr} : require c i = none ↔ ¬ c := by
  simp [require]

section
variable (rsv : BitVec 4) (reg : RegAddr) (data : Word) (arg : BitVec 32)

@[simp] theorem decode_pack_begin : decode (CmdWord.pack 0x1#4 rsv reg data arg) =
    require (rsv = 0 ∧ reg = 0 ∧ data = 0 ∧ arg = 0) .begin := by
  simp [decode, require, ite_and]
@[simp] theorem decode_pack_readWord : decode (CmdWord.pack 0x2#4 rsv reg data arg) =
    require (rsv = 0 ∧ data = 0 ∧ arg = 0) (.readWord reg) := by
  simp [decode, require, ite_and]
@[simp] theorem decode_pack_writeWord : decode (CmdWord.pack 0x3#4 rsv reg data arg) =
    require (rsv = 0 ∧ arg = 0) (.writeWord reg data) := by
  simp [decode, require, ite_and]
@[simp] theorem decode_pack_readAls : decode (CmdWord.pack 0x4#4 rsv reg data arg) =
    require (rsv = 0 ∧ reg = 0 ∧ data = 0 ∧ arg = 0) .readAls := by
  simp [decode, require, ite_and]
@[simp] theorem decode_pack_getLux : decode (CmdWord.pack 0x5#4 rsv reg data arg) =
    require (rsv = 0 ∧ reg = 0 ∧ data = 0 ∧ arg = 0) .getLux := by
  simp [decode, require, ite_and]
@[simp] theorem decode_pack_setIntEn : decode (CmdWord.pack 0x6#4 rsv reg data arg) =
    require (rsv = 0 ∧ reg = 0 ∧ data.extractLsb' 1 15 = 0 ∧ arg = 0) (.setIntEn (data.extractLsb' 0 1)) := by
  simp [decode, require, ite_and]
@[simp] theorem decode_pack_armThreshold : decode (CmdWord.pack 0x7#4 rsv reg data arg) =
    require (rsv = 0 ∧ reg = 0 ∧ arg = 0) (.armThreshold (data.signExtend 32).toInt) := by
  simp [decode, require, ite_and]
@[simp] theorem decode_pack_readClearFlags : decode (CmdWord.pack 0x8#4 rsv reg data arg) =
    require (rsv = 0 ∧ reg = 0 ∧ data = 0 ∧ arg = 0) .readClearFlags := by
  simp [decode, require, ite_and]
@[simp] theorem decode_pack_getLens : decode (CmdWord.pack 0x9#4 rsv reg data arg) =
    require (rsv = 0 ∧ reg = 0 ∧ data = 0 ∧ arg = 0) .getLens := by
  simp [decode, require, ite_and]
@[simp] theorem decode_pack_setLens : decode (CmdWord.pack 0xA#4 rsv reg data arg) =
    require (rsv = 0 ∧ reg = 0 ∧ data = 0) (.setLens arg) := by
  simp [decode, require, ite_and]
@[simp] theorem decode_pack_release : decode (CmdWord.pack 0xB#4 rsv reg data arg) =
    require (rsv = 0 ∧ reg = 0 ∧ data = 0 ∧ arg = 0) .release := by
  simp [decode, require, ite_and]

/-- The opcodes without a row decode to nothing. -/
theorem decode_pack_undefined {op : BitVec 4} (h : op = 0 ∨ 0xC ≤ op) :
    decode (CmdWord.pack op rsv reg data arg) = none := by
  have undefined : ∀ op : BitVec 4, op = 0 ∨ 0xC ≤ op → op = 0 ∨ op = 0xC ∨ op = 0xD ∨ op = 0xE ∨ op = 0xF := by
    decide
  obtain rfl | rfl | rfl | rfl | rfl := undefined op h <;> simp [decode]

end

/-! ## Decoding and encoding are inverse to each other -/

theorem decode_encode {i : Instr} (hi : i.WellFormed) : decode (encode i) = some i := by
  cases i with
  | armThreshold p => simp [encode, toInt_signExtend_data, toInt_ofInt_percentage hi]
  | _ => simp [encode]

/-- An opcode has a row in the map, or it is one of the illegal ones (R92, R95). -/
theorem opcode_cases (op : BitVec 4) :
    (op = 1 ∨ op = 2 ∨ op = 3 ∨ op = 4 ∨ op = 5 ∨ op = 6 ∨ op = 7 ∨ op = 8 ∨ op = 9 ∨ op = 0xA ∨ op = 0xB) ∨
      op = 0 ∨ 0xC ≤ op := by
  revert op
  decide

/-- The clauses of the word's row fix the fields that are no operand, and the operands are the others. -/
theorem encode_of_decode {w : CmdWord} {i : Instr} (h : decode w = some i) : encode i = w := by
  obtain ⟨op, rsv, reg, data, arg, rfl⟩ := w.exists_pack
  obtain (rfl | rfl | rfl | rfl | rfl | rfl | rfl | rfl | rfl | rfl | rfl) | hop := opcode_cases op
  case inr =>
    rw [decode_pack_undefined rsv reg data arg hop] at h
    cases h
  all_goals
    obtain ⟨fields, rfl⟩ : _ ∧ _ = i := by simpa using h
    simp [encode, fields, toInt_signExtend_data, setWidth_low_of_high_eq_zero]

/-- A word decodes to a command exactly when it is the word of that command and its operands fit. -/
theorem decode_eq_some_iff {w : CmdWord} {i : Instr} : decode w = some i ↔ i.WellFormed ∧ w = encode i := by
  refine ⟨fun h => ⟨Machine.decode_wellFormed h, (encode_of_decode h).symm⟩, ?_⟩
  rintro ⟨hi, rfl⟩
  exact decode_encode hi

/-- Settles O1: the decoder's row of the command's opcode, whose clauses the word's fields meet. -/
theorem encodedCommandDecodesToItself : Obligations.EncodedCommandDecodesToItself := fun _ => decode_encode

/-- Settles O2: the decoder's clauses fix every field of the word. -/
theorem decodedWordEncodesBack : Obligations.DecodedWordEncodesBack :=
  fun _ _ h => ⟨Machine.decode_wellFormed h, encode_of_decode h⟩

/-! ## The rows of the opcode map (R93) -/

/-- The row of a command without operands holds its one word. -/
theorem decode_eq_some_iff_of_encode {i : Instr} {m : CmdWord} (hi : i.WellFormed) (h : encode i = m) (w : CmdWord) :
    decode w = some i ↔ w &&& 0xFFFFFFFFFFFFFFFF = m := by
  have hmask : (0xFFFFFFFFFFFFFFFF : CmdWord) = BitVec.allOnes 64 := rfl
  rw [decode_eq_some_iff, h, hmask, BitVec.and_allOnes, and_iff_right hi]

/-- Masking a word field by field, where the mask keeps `OP` and `RSV`. -/
theorem pack_and_eq_iff {op rsv : BitVec 4} {reg : RegAddr} {data : Word} {arg : BitVec 32} {mask m : CmdWord}
    (o : BitVec 4) (r : RegAddr) (d : Word) (a : BitVec 32)
    (hmask : mask = CmdWord.pack (BitVec.allOnes 4) (BitVec.allOnes 4) r d a) (hm : m = CmdWord.pack o 0 0 0 0) :
    CmdWord.pack op rsv reg data arg &&& mask = m ↔
      op = o ∧ rsv = 0 ∧ reg &&& r = 0 ∧ data &&& d = 0 ∧ arg &&& a = 0 := by
  rw [hmask, hm, Laws.pack_and, BitVec.and_allOnes, BitVec.and_allOnes, CmdWord.pack_inj]

/-- The enable operand's field under the row's mask. -/
theorem data_and_eq_zero_iff (data : Word) : data &&& 0xFFFE = 0 ↔ ∃ en : BitVec 1, data = en.setWidth 16 := by
  have parts : data = data.extractLsb' 1 15 ++ data.extractLsb' 0 1 :=
    (BitVec.extractLsb'_append_extractLsb' (w := 15) (len := 1)).symm
  have masked : data &&& 0xFFFE = data.extractLsb' 1 15 ++ 0#1 := by
    have hmask : (0xFFFE : Word) = BitVec.allOnes 15 ++ 0#1 := rfl
    conv_lhs => rw [parts, hmask, Laws.append_and_append, BitVec.and_allOnes, BitVec.and_zero]
  rw [masked, append_eq_zero_iff, and_iff_left (show 0#1 = 0 from rfl)]
  refine ⟨fun high => ⟨_, (setWidth_low_of_high_eq_zero high).symm⟩, ?_⟩
  rintro ⟨en, rfl⟩
  exact extractLsb'_high_setWidth en

section
variable (w : CmdWord)

theorem exists_readWord_iff :
    (∃ reg, decode w = some (.readWord reg)) ↔ w &&& 0xFFFFFFFFFFFF00FF = 0x0000000000000002 := by
  obtain ⟨op, rsv, reg, data, arg, rfl⟩ := w.exists_pack
  refine Iff.trans ?_ (pack_and_eq_iff 2 0 (BitVec.allOnes 16) (BitVec.allOnes 32) rfl rfl).symm
  rw [BitVec.and_allOnes, BitVec.and_allOnes]
  simp [decode_eq_some_iff, encode]

theorem exists_writeWord_iff :
    (∃ reg v, decode w = some (.writeWord reg v)) ↔ w &&& 0xFFFFFFFF000000FF = 0x0000000000000003 := by
  obtain ⟨op, rsv, reg, data, arg, rfl⟩ := w.exists_pack
  refine Iff.trans ?_ (pack_and_eq_iff 3 0 0 (BitVec.allOnes 32) rfl rfl).symm
  rw [BitVec.and_allOnes]
  simp [decode_eq_some_iff, encode]

theorem exists_setIntEn_iff :
    (∃ en, decode w = some (.setIntEn en)) ↔ w &&& 0xFFFFFFFFFFFEFFFF = 0x0000000000000006 := by
  obtain ⟨op, rsv, reg, data, arg, rfl⟩ := w.exists_pack
  refine Iff.trans ?_ (pack_and_eq_iff 6 (BitVec.allOnes 8) 0xFFFE (BitVec.allOnes 32) rfl rfl).symm
  rw [BitVec.and_allOnes, BitVec.and_allOnes, data_and_eq_zero_iff]
  simp [decode_eq_some_iff, encode]

/-- Every value of its field is the two's complement of a percentage. -/
theorem exists_armThreshold_iff :
    (∃ p, decode w = some (.armThreshold p)) ↔ w &&& 0xFFFFFFFF0000FFFF = 0x0000000000000007 := by
  obtain ⟨op, rsv, reg, data, arg, rfl⟩ := w.exists_pack
  refine Iff.trans ?_ (pack_and_eq_iff 7 (BitVec.allOnes 8) 0 (BitVec.allOnes 32) rfl rfl).symm
  rw [BitVec.and_allOnes, BitVec.and_allOnes]
  constructor
  · rintro ⟨p, h⟩
    obtain ⟨-, h⟩ := decode_eq_some_iff.1 h
    simp_all [encode]
  · rintro ⟨rfl, rfl, rfl, -, rfl⟩
    exact ⟨(data.signExtend 32).toInt, by simp⟩

theorem exists_setLens_iff :
    (∃ v, decode w = some (.setLens v)) ↔ w &&& 0x00000000FFFFFFFF = 0x000000000000000A := by
  obtain ⟨op, rsv, reg, data, arg, rfl⟩ := w.exists_pack
  refine Iff.trans ?_ (pack_and_eq_iff 0xA (BitVec.allOnes 8) (BitVec.allOnes 16) 0 rfl rfl).symm
  rw [BitVec.and_allOnes,
    BitVec.and_allOnes]
  simp [decode_eq_some_iff, encode]

end

/-- Settles O3, row by row: a command's word, or the words of its row one operand for each. -/
theorem decodeFollowsMaskAndMatch : Obligations.DecodeFollowsMaskAndMatch := fun w =>
  ⟨decode_eq_some_iff_of_encode trivial rfl w, exists_readWord_iff w, exists_writeWord_iff w,
    decode_eq_some_iff_of_encode trivial rfl w, decode_eq_some_iff_of_encode trivial rfl w,
    exists_setIntEn_iff w, exists_armThreshold_iff w, decode_eq_some_iff_of_encode trivial rfl w,
    decode_eq_some_iff_of_encode trivial rfl w, exists_setLens_iff w, decode_eq_some_iff_of_encode trivial rfl w⟩

/-! ## The operands (R94) -/

/-- Settles O4: a word that decodes is the word of its command, whose fields are the operands. -/
theorem operandsAreTheFieldsAsGiven : Obligations.OperandsAreTheFieldsAsGiven := by
  intro w
  refine ⟨fun reg h => ?_, fun reg v h => ?_, fun en h => ?_, fun p h => ?_, fun v h => ?_⟩
  all_goals obtain ⟨hi, rfl⟩ := decode_eq_some_iff.1 h
  · exact (CmdWord.reg_pack ..).symm
  · exact ⟨(CmdWord.reg_pack ..).symm, (CmdWord.data_pack ..).symm⟩
  · have hdata : (encode (.setIntEn en)).extractLsb' 16 16 = en.setWidth 16 := CmdWord.data_pack ..
    rw [← extractLsb'_extractLsb' (k := 16) (i := 0) (m := 16) _ (by decide),
      ← extractLsb'_extractLsb' (k := 16) (i := 1) (m := 16) _ (by decide), hdata]
    exact ⟨(extractLsb'_low_setWidth en).symm, extractLsb'_high_setWidth en⟩
  · have hdata : (encode (.armThreshold p)).extractLsb' 16 16 = BitVec.ofInt 16 p := CmdWord.data_pack ..
    have hsign : (encode (.armThreshold p)).getLsbD 31 = (BitVec.ofInt 16 p).msb := by
      rw [← hdata]
      simp [BitVec.msb_eq_getLsbD_last]
    rw [hdata, hsign]
    exact ⟨(toInt_ofInt_percentage hi).symm.trans (BitVec.toInt_eq_msb_cond _), hi⟩
  · exact (CmdWord.arg_pack ..).symm

/-! ## The illegal words (R95) -/

section
variable (w : CmdWord)

/-- The bits above `RSV`. -/
theorem extractLsb'_reg_to_arg_eq_zero_iff : w.extractLsb' 8 56 = 0 ↔ w.reg = 0 ∧ w.data = 0 ∧ w.arg = 0 :=
  (extractLsb'_add_eq_zero_iff w 8 8 48).trans (and_congr_right' (extractLsb'_add_eq_zero_iff w 16 16 32))

theorem extractLsb'_data_to_arg_eq_zero_iff : w.extractLsb' 16 48 = 0 ↔ w.data = 0 ∧ w.arg = 0 :=
  extractLsb'_add_eq_zero_iff w 16 16 32

theorem extractLsb'_reg_to_data_eq_zero_iff : w.extractLsb' 8 24 = 0 ↔ w.reg = 0 ∧ w.data = 0 :=
  extractLsb'_add_eq_zero_iff w 8 8 16

/-- The bits above the enable operand. -/
theorem extractLsb'_above_enable_eq_zero_iff :
    w.extractLsb' 17 47 = 0 ↔ w.data.extractLsb' 1 15 = 0 ∧ w.arg = 0 := by
  rw [CmdWord.data, extractLsb'_extractLsb' w (by decide)]
  exact extractLsb'_add_eq_zero_iff w 17 15 32

/-- A word is illegal by its opcode, by its reserved bits, or by a field that its opcode does not use. -/
theorem decode_eq_none_iff :
    decode w = none ↔ w.op = 0 ∨ 0xC ≤ w.op ∨ w.rsv ≠ 0 ∨
      (w.op ∈ ([1, 4, 5, 8, 9, 0xB] : List (BitVec 4)) ∧ ¬ (w.reg = 0 ∧ w.data = 0 ∧ w.arg = 0)) ∨
      (w.op = 2 ∧ ¬ (w.data = 0 ∧ w.arg = 0)) ∨
      (w.op = 3 ∧ w.arg ≠ 0) ∨
      (w.op = 6 ∧ (w.reg ≠ 0 ∨ ¬ (w.data.extractLsb' 1 15 = 0 ∧ w.arg = 0))) ∨
      (w.op = 7 ∧ (w.reg ≠ 0 ∨ w.arg ≠ 0)) ∨
      (w.op = 0xA ∧ ¬ (w.reg = 0 ∧ w.data = 0)) := by
  obtain ⟨op, rsv, reg, data, arg, rfl⟩ := w.exists_pack
  simp only [CmdWord.op_pack, CmdWord.rsv_pack, CmdWord.reg_pack, CmdWord.data_pack, CmdWord.arg_pack]
  obtain (rfl | rfl | rfl | rfl | rfl | rfl | rfl | rfl | rfl | rfl | rfl) | hop := opcode_cases op
  case inr =>
    simp only [decode_pack_undefined rsv reg data arg hop, true_iff]
    exact hop.imp_right .inl
  all_goals simp [imp_iff_not_or]

end

end Sys2Proof

namespace Sys2Proof.Machine

/-- An idle block takes an ILLEGAL word in one step, and completes it in the next one without a transaction. -/
theorem step_illegal {s : State} (hd : decode s.portNow.cmdWord = none) (idle : s.status ≠ .running)
    (hr : s.portNow.rst = false) (hv : s.portNow.cmdValid = true) (hr1 : (s.portAt 1).rst = false) :
    ∃ t, step s = .next t ∧ t.status = .running ∧
      step t = .next { s with
        status := .illegalCommand, result := sentinel, err := 0, cur := none, stepIx := 0
        script := s.script.drop 2, tick := s.tick + 2 } := by
  let t := (s.accept s.portNow.cmdWord).advance
  have port : t.portNow = s.portAt 1 := (s.accept s.portNow.cmdWord).portAt_advance 0
  have quiet : t.portNow.rst = false := port ▸ hr1
  refine ⟨t, step_accept hr idle hv, rfl, ?_⟩
  rw [step_busy t quiet rfl, runCur_of_illegal hd]
  simp [t, thenAdvance, State.advance, State.accept, State.failIllegal, State.fail, State.finish, hd, ← List.drop_one]

/-- Settles O5, by the decoder's illegal words and the two steps that an ILLEGAL word takes. -/
theorem illegalWordsAreAcceptedAndFail : Obligations.IllegalWordsAreAcceptedAndFail := by
  refine fun w => ⟨?_, ?_⟩
  · simp only [ne_eq, extractLsb'_reg_to_arg_eq_zero_iff, extractLsb'_data_to_arg_eq_zero_iff,
      extractLsb'_reg_to_data_eq_zero_iff, extractLsb'_above_enable_eq_zero_iff]
    exact decode_eq_none_iff w
  · rintro hd s idle hr hv rfl hr1
    exact step_illegal hd idle hr hv hr1

end Sys2Proof.Machine
end

section
/-! PROOFS. The assembler: what the disassembler prints is read back, and the pseudo-commands and the examples of the spec
are read as they should be (spec 30_encoding.md R97 to R99; log entry 15). -/

namespace Sys2Proof.Machine

/-! ## Tokens -/

/-- A word of a line: not empty, and without a space or a comma. -/
abbrev IsWord (cs : List Char) : Prop := cs ≠ [] ∧ ' ' ∉ cs ∧ ',' ∉ cs

theorem flushToken_nil : flushToken [] = [] := rfl

theorem flushToken_reverse {cs : List Char} (h : cs ≠ []) : flushToken cs.reverse = [cs] := by
  simp [flushToken, h]

/-- Characters that separate nothing go into the token being read. -/
theorem lexFrom_append {cs : List Char} (hspace : ' ' ∉ cs) (hcomma : ',' ∉ cs) (cur rest : List Char) :
    lexFrom cur (cs ++ rest) = lexFrom (cs.reverse ++ cur) rest := by
  induction cs generalizing cur with
  | nil => rfl
  | cons c cs ih =>
    obtain ⟨cspace, hspace⟩ := not_or.1 (mt List.mem_cons.2 hspace)
    obtain ⟨ccomma, hcomma⟩ := not_or.1 (mt List.mem_cons.2 hcomma)
    simp [lexFrom, Ne.symm cspace, Ne.symm ccomma, ih hspace hcomma]

namespace IsWord

variable {cs : List Char} (h : IsWord cs)
include h

theorem lexFrom_append (rest : List Char) : lexFrom [] (cs ++ rest) = lexFrom cs.reverse rest := by
  rw [Machine.lexFrom_append h.2.1 h.2.2, List.append_nil]

theorem lexFrom_self : lexFrom [] cs = [cs] := by
  rw [← cs.append_nil, h.lexFrom_append, lexFrom, flushToken_reverse h.1, cs.append_nil]

theorem lexFrom_space (rest : List Char) : lexFrom [] (cs ++ ' ' :: rest) = cs :: lexFrom [] rest := by
  simp [h.lexFrom_append, lexFrom, flushToken_reverse h.1]

theorem lexFrom_comma_space (rest : List Char) :
    lexFrom [] (cs ++ ',' :: ' ' :: rest) = cs :: [','] :: lexFrom [] rest := by
  simp [h.lexFrom_append, lexFrom, flushToken_reverse h.1, flushToken_nil]

end IsWord

/-! ## Numbers as the disassembler prints them -/

theorem hexDigits_ne_nil {k : Nat} (hk : 0 < k) (v : Nat) : hexDigits k v ≠ [] := by
  cases k with
  | zero => cases hk
  | succ k => simp [hexDigits]

/-- A character that is no digit is in no number. -/
theorem not_mem_hexDigits {c : Char} (hc : ∀ d < 16, c ≠ hexDigit d) (k v : Nat) : c ∉ hexDigits k v := by
  induction k generalizing v with
  | zero => exact List.not_mem_nil
  | succ k ih =>
    rw [hexDigits, List.mem_append, List.mem_singleton, not_or]
    exact ⟨ih _, hc _ (Nat.mod_lt _ (by decide))⟩

theorem not_mem_hexNumber {c : Char} (h0 : c ≠ '0') (hx : c ≠ 'x') (hc : ∀ d < 16, c ≠ hexDigit d) (k v : Nat) :
    c ∉ hexNumber k v := by
  simp [hexNumber, h0, hx, not_mem_hexDigits hc]

theorem isWord_hexNumber (k v : Nat) : IsWord (hexNumber k v) :=
  ⟨List.cons_ne_nil _ _, not_mem_hexNumber (by decide) (by decide) (by decide) k v,
    not_mem_hexNumber (by decide) (by decide) (by decide) k v⟩

theorem isWord_neg_hexNumber (k v : Nat) : IsWord ('-' :: hexNumber k v) := by
  obtain ⟨-, hspace, hcomma⟩ := isWord_hexNumber k v
  exact ⟨List.cons_ne_nil _ _, by simp [hspace], by simp [hcomma]⟩

/-- The last `k` digits of a number, read after others, put its value modulo `16 ^ k` behind theirs. -/
theorem parseDigits_hexDigits (k acc v : Nat) (rest : List Char) :
    parseDigits 16 acc (hexDigits k v ++ rest) = parseDigits 16 (acc * 16 ^ k + v % 16 ^ k) rest := by
  induction k generalizing v rest with
  | zero => simp [hexDigits, Nat.mod_one]
  | succ k ih =>
    have hd : v % 16 < 16 := Nat.mod_lt _ (by decide)
    have hval : (acc * 16 ^ k + v / 16 % 16 ^ k) * 16 + v % 16 = acc * 16 ^ (k + 1) + v % 16 ^ (k + 1) := by
      rw [pow_succ', Nat.mod_mul]
      ring
    rw [hexDigits, List.append_assoc, ih, List.singleton_append, parseDigits, digitValue_hexDigit _ hd]
    simp [hd, hval]

theorem parseNumber_hexNumber {k v : Nat} (hk : 0 < k) (hv : v < 16 ^ k) : parseNumber (hexNumber k v) = some v := by
  have hread : parseDigits 16 0 (hexDigits k v) = some v := by
    simpa [parseDigits, Nat.mod_eq_of_lt hv] using parseDigits_hexDigits k 0 v []
  obtain ⟨d, ds, hds⟩ := List.exists_cons_of_ne_nil (hexDigits_ne_nil hk v)
  rw [hexNumber, hds, parseNumber, ← hds, hread]

/-! ## Operands as the disassembler prints them -/

theorem parseField_hexNumber {n k : Nat} (hk : 0 < k) (hn : 2 ^ n ≤ 16 ^ k) (v : BitVec n) :
    parseField n (hexNumber k v.toNat) = some v := by
  simp [parseField, parseNumber_hexNumber hk (v.isLt.trans_le hn), v.isLt]

theorem parseField_word (v : Word) : parseField 16 (hexNumber 4 v.toNat) = some v :=
  parseField_hexNumber (by decide) (by decide) v

/-- No register's name starts with the digit 0. -/
theorem parseRegister_hexNumber (reg : RegAddr) : parseRegister (hexNumber 2 reg.toNat) = some reg := by
  have noName : ∀ r ∈ registerNames, r.1.toList.head? ≠ some '0' := by decide
  have hfind : registerNames.find? (fun r => r.1.toList = hexNumber 2 reg.toNat) = none :=
    List.find?_eq_none.2 fun r hr he => noName r hr (by rw [of_decide_eq_true he]; rfl)
  rw [parseRegister, hfind]
  exact parseField_hexNumber (by decide) (by decide) reg

theorem parseSigned_neg {p : Int} (hp : p < 0) (hlow : -32768 ≤ p) :
    parseSigned ('-' :: hexNumber 4 p.natAbs) = some p := by
  simp only [parseSigned, parseNumber_hexNumber (k := 4) (v := p.natAbs) (by decide) (by omega)]
  rw [if_pos (by omega), Int.ofNat_natAbs_of_nonpos hp.le, Int.neg_neg]

theorem parseSigned_nonneg {p : Int} (hp : 0 ≤ p) (hhigh : p ≤ 32767) :
    parseSigned (hexNumber 4 p.natAbs) = some p := by
  have hnumber : parseNumber (hexNumber 4 p.natAbs) = some p.natAbs := parseNumber_hexNumber (by decide) (by omega)
  have hunsigned : parseSigned (hexNumber 4 p.natAbs) =
      match parseNumber (hexNumber 4 p.natAbs) with
      | some v => if v ≤ 32767 then some (v : Int) else none
      | none => none := rfl
  simp only [hunsigned, hnumber]
  rw [if_pos (by omega), Int.natAbs_of_nonneg hp]

/-! ## Lines -/

/-- A line of a mnemonic `m`, whose operand is read by `parse`, and an operand that `parse` reads as `x`. -/
theorem assembleLine_one_operand {α : Type} {m a : List Char} {parse : List Char → Option α} {f : α → Instr} {x : α}
    (hm : IsWord m) (hparse : ∀ b, parseOneOperand m b = (parse b).map f) (ha : IsWord a) (hx : parse a = some x) :
    assembleLine (m ++ ' ' :: a) = some (f x) := by
  rw [assembleLine, hm.lexFrom_space, ha.lexFrom_self, parseTokens, hparse, hx, Option.map_some]

theorem assembleLine_two_operands {a b : List Char} {reg : RegAddr} {v : Word} (ha : IsWord a) (hb : IsWord b)
    (hreg : parseRegister a = some reg) (hv : parseField 16 b = some v) :
    assembleLine ("WRITE_WORD".toList ++ ' ' :: (a ++ ',' :: ' ' :: b)) = some (.writeWord reg v) := by
  have hm : IsWord "WRITE_WORD".toList := by decide
  rw [assembleLine, hm.lexFrom_space, ha.lexFrom_comma_space, hb.lexFrom_self, parseTokens, parseTwoOperands, hreg, hv]
  rfl

theorem assembleLine_readWord (reg : RegAddr) : assembleLine (disassemble (.readWord reg)) = some (.readWord reg) :=
  assembleLine_one_operand (m := "READ_WORD".toList) (f := .readWord) (by decide) (fun _ => rfl) (isWord_hexNumber ..)
    (parseRegister_hexNumber reg)

theorem assembleLine_setLens (v : Lens) : assembleLine (disassemble (.setLens v)) = some (.setLens v) :=
  assembleLine_one_operand (m := "SET_LENS".toList) (f := .setLens) (by decide) (fun _ => rfl) (isWord_hexNumber ..)
    (parseField_hexNumber (by decide) (by decide) v)

theorem assembleLine_setIntEn : ∀ en, assembleLine (disassemble (.setIntEn en)) = some (.setIntEn en) := by
  decide

theorem disassemble_writeWord (reg : RegAddr) (v : Word) :
    disassemble (.writeWord reg v) =
      "WRITE_WORD".toList ++ ' ' :: (hexNumber 2 reg.toNat ++ ',' :: ' ' :: hexNumber 4 v.toNat) :=
  calc disassemble (.writeWord reg v)
      = "WRITE_WORD".toList ++ [' '] ++ hexNumber 2 reg.toNat ++ [',', ' '] ++ hexNumber 4 v.toNat := rfl
    _ = _ := by simp only [List.append_assoc, List.cons_append, List.nil_append]

theorem assembleLine_writeWord (reg : RegAddr) (v : Word) :
    assembleLine (disassemble (.writeWord reg v)) = some (.writeWord reg v) := by
  rw [disassemble_writeWord]
  exact assembleLine_two_operands (isWord_hexNumber ..) (isWord_hexNumber ..) (parseRegister_hexNumber reg)
    (parseField_word v)

theorem disassemble_armThreshold (p : Int) :
    disassemble (.armThreshold p) =
      "ARM_THRESHOLD".toList ++ ' ' :: ((if p < 0 then ['-'] else []) ++ hexNumber 4 p.natAbs) :=
  calc disassemble (.armThreshold p)
      = "ARM_THRESHOLD".toList ++ [' '] ++ (if p < 0 then ['-'] else []) ++ hexNumber 4 p.natAbs := rfl
    _ = _ := by simp only [List.append_assoc, List.cons_append, List.nil_append]

theorem assembleLine_armThreshold {p : Int} (h : (Instr.armThreshold p).WellFormed) :
    assembleLine (disassemble (.armThreshold p)) = some (.armThreshold p) := by
  obtain ⟨hlow, hhigh⟩ := h
  have line {a : List Char} (ha : IsWord a) (hp : parseSigned a = some p) :
      assembleLine ("ARM_THRESHOLD".toList ++ ' ' :: a) = some (.armThreshold p) :=
    assembleLine_one_operand (by decide) (fun _ => rfl) ha hp
  rw [disassemble_armThreshold]
  by_cases hp : p < 0
  · rw [if_pos hp]
    exact line (isWord_neg_hexNumber ..) (parseSigned_neg hp hlow)
  · rw [if_neg hp]
    exact line (isWord_hexNumber ..) (parseSigned_nonneg (Int.not_lt.1 hp) hhigh)

theorem assembleLine_writePseudo {m : List Char} {reg : RegAddr} (hm : IsWord m)
    (hparse : ∀ b, parseOneOperand m b = (parseField 16 b).map (.writeWord reg)) (v : Word) :
    assembleLine (m ++ ' ' :: hexNumber 4 v.toNat) = some (.writeWord reg v) :=
  assembleLine_one_operand hm hparse (isWord_hexNumber ..) (parseField_word v)

/-! ## The obligations -/

/-- Settles O7: a line with operands by the rule for its operands, any other by reading it. -/
theorem disassembledLineAssembles : Obligations.DisassembledLineAssembles := by
  intro i hi
  cases i with
  | readWord reg => exact assembleLine_readWord reg
  | writeWord reg v => exact assembleLine_writeWord reg v
  | setIntEn en => exact assembleLine_setIntEn en
  | armThreshold p => exact assembleLine_armThreshold hi
  | setLens v => exact assembleLine_setLens v
  | begin | readAls | getLux | readClearFlags | getLens | release => decide

/-- Settles O8: the pseudo-commands with an operand by the rule for it, the others by reading their lines. -/
theorem pseudoCommandsExpand : Obligations.PseudoCommandsExpand := by
  refine ⟨by decide, fun v => ?_, by decide, by decide, by decide, by decide, by decide⟩
  exact ⟨assembleLine_writePseudo (m := "WRITE_CONF".toList) (by decide) (fun _ => rfl) v,
    assembleLine_writePseudo (m := "WRITE_WH".toList) (by decide) (fun _ => rfl) v,
    assembleLine_writePseudo (m := "WRITE_WL".toList) (by decide) (fun _ => rfl) v,
    assembleLine_writePseudo (m := "WRITE_PSM".toList) (by decide) (fun _ => rfl) v⟩

/-- Settles O6: the nine examples are closed terms, each line and each word read by the model. -/
theorem exampleLinesAndWords : Obligations.ExampleLinesAndWords := by
  unfold Obligations.ExampleLinesAndWords
  decide

end Sys2Proof.Machine
end

section
/-! PROOFS. A word transaction from the environment's answer to it (spec 40_transport.md R122 to R125), and the two commands
that are one transaction (R126, R127). -/

namespace Sys2Proof.Machine

/-! ## The poll -/

theorem pollReady_of_never {a : BusAnswer} {n : Nat} (never : ∀ j < n, availableAt a j < 2) :
    pollReady a n 0 = (false, n) := by
  obtain ⟨k, hk, -, ready, -⟩ | ⟨-, he⟩ := pollReady_cases a n 0
  · rw [Nat.zero_add] at ready
    exact absurd ready (Nat.not_le.2 (never k hk))
  · rwa [Nat.zero_add] at he

theorem pollReady_of_first {a : BusAnswer} {n k : Nat} (hk : k < n) (before : ∀ j < k, availableAt a j < 2)
    (ready : 2 ≤ availableAt a k) : pollReady a n 0 = (true, k + 1) := by
  obtain ⟨k', -, before', ready', he⟩ | ⟨never, -⟩ := pollReady_cases a n 0
  · simp only [Nat.zero_add] at before' ready' he
    have hle : k' ≤ k := Nat.not_lt.1 fun h => absurd (before' k h) (Nat.not_lt.2 ready)
    have hge : k ≤ k' := Nat.not_lt.1 fun h => absurd (before k' h) (Nat.not_lt.2 ready')
    rwa [Nat.le_antisymm hle hge] at he
  · simp only [Nat.zero_add] at never
    exact absurd ready (Nat.not_le.2 (never k hk))

/-! ## A read's five ways, each from the answers that lead to it -/

section
variable {limit : Nat} {slave : BusAddr} {reg : RegAddr} {a : BusAnswer}

theorem readTransaction_of_addressing_nack (nack : a.ackAddr = false ∨ a.ack0 = false) :
    readTransaction limit slave reg a = (.err .addrPhase, [.txWrite slave [reg] false]) := by
  have hack : (a.ackAddr && a.ack0) = false := Bool.and_eq_false_iff.2 nack
  simp [readTransaction, hack]

theorem readTransaction_of_request_fail (addr : a.ackAddr = true) (ack : a.ack0 = true) (request : a.request = none) :
    readTransaction limit slave reg a = (.err .readPhase, [.txWrite slave [reg] false, .txRequest slave 2]) := by
  simp [readTransaction, addr, ack, request]

theorem readTransaction_of_wrong_count {k : Nat} (addr : a.ackAddr = true) (ack : a.ack0 = true)
    (request : a.request = some k) (hk : k ≠ 2) :
    readTransaction limit slave reg a = (.err .byteCount, [.txWrite slave [reg] false, .txRequest slave 2]) := by
  simp [readTransaction, addr, ack, request, hk]

theorem readTransaction_of_never_ready (addr : a.ackAddr = true) (ack : a.ack0 = true) (request : a.request = some 2)
    (never : ∀ j < limit, availableAt a j < 2) :
    readTransaction limit slave reg a =
      (.err .notReady, [.txWrite slave [reg] false, .txRequest slave 2] ++ List.replicate limit .txAvailable) := by
  simp [readTransaction, addr, ack, request, pollReady_of_never never]

theorem readTransaction_of_first_ready {k : Nat} (addr : a.ackAddr = true) (ack : a.ack0 = true)
    (request : a.request = some 2) (hk : k < limit) (before : ∀ j < k, availableAt a j < 2)
    (ready : 2 ≤ availableAt a k) :
    readTransaction limit slave reg a =
      (.ok (wordOfBytes a.byte0 a.byte1),
        [.txWrite slave [reg] false, .txRequest slave 2] ++ List.replicate (k + 1) .txAvailable ++
          [.txReadByte, .txReadByte]) := by
  simp [readTransaction, addr, ack, request, pollReady_of_first hk before ready]

end

/-- A read's outcome and the state after it, from its transaction: one event, the calls made and the answer used. -/
theorem State.afterRead_of_transaction {s : State} {reg : RegAddr} {o : ReadOutcome} {calls : List TxCall}
    (h : readTransaction Config.pollLimit s.slaveAddr reg s.answerNow = (o, calls)) :
    s.readOutcome reg = o ∧ s.afterRead reg = s.record (.read reg o) calls := by
  have ho : s.readOutcome reg = o := congrArg Prod.fst h
  exact ⟨ho, by rw [State.afterRead, ho, h]⟩

/-- Settles O19: in each phase the answers say what the transaction is, and the transaction says the state after it. -/
theorem readTransactionFollowsItsPhases : Obligations.ReadTransactionFollowsItsPhases := by
  intro s reg o calls h
  refine State.afterRead_of_transaction ?_
  obtain ⟨nack, rfl, rfl⟩ | ⟨addr, ack, request, rfl, rfl⟩ | ⟨addr, ack, ⟨k, request, hk⟩, rfl, rfl⟩ |
    ⟨addr, ack, request, never, rfl, rfl⟩ | ⟨addr, ack, request, k, hk, before, ready, rfl, rfl⟩ := h
  · exact readTransaction_of_addressing_nack nack
  · exact readTransaction_of_request_fail addr ack request
  · exact readTransaction_of_wrong_count addr ack request hk
  · exact readTransaction_of_never_ready addr ack request never
  · exact readTransaction_of_first_ready addr ack request hk before ready

/-! ## The number of checks -/

/-- A read makes the checks of its poll where it gets as far as the poll, and no others. -/
theorem readTransaction_count_txAvailable (limit : Nat) (slave : BusAddr) (reg : RegAddr) (a : BusAnswer) :
    (readTransaction limit slave reg a).2.count .txAvailable =
      if (a.ackAddr && a.ack0) = true ∧ a.request = some 2 then (pollReady a limit 0).2 else 0 := by
  obtain ⟨hack, he⟩ | ⟨hack, request, he⟩ | ⟨hack, ⟨k, request, hk⟩, he⟩ | ⟨hack, request, never, he⟩ |
    ⟨hack, request, k, hk, before, ready, he⟩ := readTransaction_cases limit slave reg a <;> rw [he]
  · simp [hack]
  · simp [request]
  · simp [request, hk]
  · simp [hack, request, pollReady_of_never never]
  · simp [hack, request, pollReady_of_first hk before ready]

theorem pollReady_checks_le (a : BusAnswer) (n : Nat) : (pollReady a n 0).2 ≤ n := by
  obtain ⟨k, hk, -, -, he⟩ | ⟨-, he⟩ := pollReady_cases a n 0 <;> rw [he] <;> omega

theorem pollReady_checks_pos (a : BusAnswer) {n : Nat} (hn : 1 ≤ n) : 1 ≤ (pollReady a n 0).2 := by
  obtain ⟨k, hk, -, -, he⟩ | ⟨-, he⟩ := pollReady_cases a n 0 <;> rw [he] <;> omega

/-- A read that ends with NOT_READY has got as far as the poll, and no check has found two bytes. -/
theorem never_ready_of_notReady {limit : Nat} {slave : BusAddr} {reg : RegAddr} {a : BusAnswer}
    (h : (readTransaction limit slave reg a).1 = .err .notReady) :
    (a.ackAddr && a.ack0) = true ∧ a.request = some 2 ∧ ∀ j < limit, availableAt a j < 2 := by
  obtain ⟨-, he⟩ | ⟨-, -, he⟩ | ⟨-, -, he⟩ | ⟨hack, request, never, -⟩ | ⟨-, -, k, -, -, -, he⟩ :=
    readTransaction_cases limit slave reg a
  case inr.inr.inr.inl => exact ⟨hack, request, never⟩
  all_goals
    rw [he] at h
    cases h

/-- Settles O21, by the number of checks of the poll. -/
theorem pollMakesAtMostItsLimitOfChecks : Obligations.PollMakesAtMostItsLimitOfChecks := by
  intro limit slave reg a hlimit
  rw [readTransaction_count_txAvailable]
  refine ⟨?_, fun addr ack request => ?_, fun h => ?_⟩
  · split
    · exact pollReady_checks_le a limit
    · exact Nat.zero_le limit
  · rw [if_pos ⟨by rw [addr, ack]; rfl, request⟩]
    exact pollReady_checks_pos a hlimit
  · obtain ⟨hack, request, never⟩ := never_ready_of_notReady h
    rw [if_pos ⟨hack, request⟩, pollReady_of_never never]

/-! ## Every outcome can be drawn -/

/-- An environment that acknowledges everything and has the two bytes of `w` ready at the first check. -/
def answerReady (w : Word) : BusAnswer where
  ackAddr := true
  ack0 := true
  ack1 := true
  ack2 := true
  request := some 2
  avail := []
  availRest := 2
  byte0 := lowByte w
  byte1 := highByte w

/-- An answer that gives a read the outcome `o`: where it fails, only the answer at the cause differs from a good one. -/
def answerOfRead : ReadOutcome → BusAnswer
  | .ok w => answerReady w
  | .err .addrPhase => { answerReady 0 with ack0 := false }
  | .err .readPhase => { answerReady 0 with request := none }
  | .err .byteCount => { answerReady 0 with request := some 0 }
  | .err .notReady => { answerReady 0 with availRest := 0 }

/-- An answer that gives a write the outcome `o`. -/
def answerOfWrite : WriteOutcome → BusAnswer
  | .ok => answerReady 0
  | .nack => { answerReady 0 with ack2 := false }

theorem readTransaction_answerOfRead {limit : Nat} (hlimit : 0 < limit) (slave : BusAddr) (reg : RegAddr) (o : ReadOutcome) :
    (readTransaction limit slave reg (answerOfRead o)).1 = o := by
  cases o with
  | ok w =>
    have ready : 2 ≤ availableAt (answerReady w) 0 := Nat.le_refl 2
    rw [answerOfRead, readTransaction_of_first_ready rfl rfl rfl hlimit nofun ready]
    exact congrArg ReadOutcome.ok (wordOfBytes_bytes w)
  | err c =>
    cases c with
    | addrPhase => rfl
    | readPhase => rfl
    | byteCount => rfl
    | notReady =>
      have never (j : Nat) (_ : j < limit) : availableAt (answerOfRead (.err .notReady)) j < 2 := Nat.zero_lt_two
      rw [readTransaction_of_never_ready rfl rfl rfl never]

/-- Settles O22, by `answerOfRead` and `answerOfWrite`. -/
theorem everyTransactionOutcomeCanBeDrawn : Obligations.EveryTransactionOutcomeCanBeDrawn :=
  ⟨fun s reg o => ⟨answerOfRead o, readTransaction_answerOfRead (Nat.succ_pos _) s.slaveAddr reg o⟩,
    fun s reg v o => ⟨answerOfWrite o, by cases o <;> rfl⟩⟩

/-! ## A write -/

theorem Memory.note_eq_ite (m : Memory) (reg : RegAddr) (v : Word) (o : WriteOutcome) :
    m.note reg v o = if o = .ok then m.writeWord reg v else m := by
  cases o <;> rfl

/-- Settles O20: all four bytes have to be acknowledged, and what is noted follows the outcome. -/
theorem writeTransactionNeedsEveryAck : Obligations.WriteTransactionNeedsEveryAck :=
  fun s reg v => ⟨writeTransaction_outcome s.slaveAddr reg v s.answerNow, by
    rw [State.afterWrite, Memory.note_eq_ite]; rfl⟩

/-! ## READ_WORD and WRITE_WORD -/

theorem readThenFinish_of_err {reg : RegAddr} {s : State} {c : ReadCause} (value : Word → BitVec 64)
    (h : s.readOutcome reg = .err c) :
    readThenFinish reg value s = (s.afterRead reg).raiseBusError c.cause 0 reg := by
  simp [readThenFinish, h]

theorem writeThenFinish_of_nack {reg : RegAddr} {s : State} {v : Word} (h : s.writeOutcome reg v = .nack) :
    writeThenFinish reg v s = (s.afterWrite reg v).raiseBusError .writeNack 0 reg := by
  simp [writeThenFinish, h]

/-- Settles O25: the one read, and how the command ends on either outcome. -/
theorem readWordCompletes : Obligations.ReadWordCompletes := by
  refine fun reg s hstep => ⟨fun w ho => ?_, fun c ho => ?_⟩ <;> rw [exec_readWord hstep]
  · rw [readThenFinish_of_ok _ ho]; rfl
  · rw [readThenFinish_of_err _ ho]; rfl

/-- Settles O26: the one write, and how the command ends on either outcome. -/
theorem writeWordCompletes : Obligations.WriteWordCompletes := by
  refine fun reg v s hstep => ⟨fun ho => ?_, fun ho => ?_⟩ <;> rw [exec_writeWord hstep]
  · rw [writeThenFinish_of_ok ho]; rfl
  · rw [writeThenFinish_of_nack ho]; rfl

end Sys2Proof.Machine
end

section
/-! PROOFS. The device state and the commands that write it: GET_LENS, SET_LENS, BEGIN and RELEASE micro-step by
micro-step, the transitions of STATE, and a whole BEGIN (spec 41_device_state.md). -/

namespace Sys2Proof.Machine

variable {s : State}

/-! ## GET_LENS and SET_LENS (R160, R162) -/

/-- Settles O29: the meaning is one `finish`, which writes the three outcome registers. -/
theorem getLensCompletes : Obligations.GetLensCompletes := fun _ => rfl

/-- Settles O30: the meaning is the write of LENS and one `finish`. -/
theorem setLensCompletes : Obligations.SetLensCompletes := fun _ _ => rfl

/-! ## BEGIN's transactions (R151, R152, R153) -/

theorem idMatches_iff {w : Word} : idMatches w = true ↔ lowByte w = 0x83 := decide_eq_true_iff

theorem beginProbe_of_err {c : ReadCause} (h : s.readOutcome Reg.ident = .err c) :
    beginProbe s = { s.afterRead Reg.ident with state := .failed }.raiseBusError c.cause 2 Reg.ident := by
  simp only [beginProbe, h]

theorem beginProbe_of_mismatch {w : Word} (h : s.readOutcome Reg.ident = .ok w) (hid : lowByte w ≠ 0x83) :
    beginProbe s =
      { s.afterRead Reg.ident with state := .failed }.fail .identityMismatch (errWord .idMismatch 2 Reg.ident) := by
  simp only [beginProbe, h, idMatches_iff, hid, if_false]

theorem beginProbe_of_match {w : Word} (h : s.readOutcome Reg.ident = .ok w) (hid : lowByte w = 0x83) :
    beginProbe s = (s.afterRead Reg.ident).goto 3 := by
  simp only [beginProbe, h, idMatches_iff, hid, if_true]

/-- BEGIN's writes that another transaction follows, by their index. -/
theorem exec_begin_write {k : BitVec 3} {reg : RegAddr} {v : Word}
    (h : (k, reg, v) ∈ [((0 : BitVec 3), Reg.wl, (0x0000 : Word)), (1, Reg.wl, 0x0000),
      (3, Reg.alsConf, AlsConf.default), (4, Reg.wh, 0xFFFF), (5, Reg.wl, 0x0000)])
    (hstep : s.stepIx = k) : exec .begin s = .next (beginWrite k reg v s) := by
  simp only [List.mem_cons, Prod.mk.injEq, List.not_mem_nil, or_false] at h
  obtain ⟨rfl, rfl, rfl⟩ | ⟨rfl, rfl, rfl⟩ | ⟨rfl, rfl, rfl⟩ | ⟨rfl, rfl, rfl⟩ | ⟨rfl, rfl, rfl⟩ := h
  · exact exec_begin_wl hstep
  · exact exec_begin_wl_again hstep
  · exact exec_begin_conf hstep
  · exact exec_begin_wh hstep
  · exact exec_begin_wl_last hstep

/-- Settles O34: the five writes that go on, the three outcomes of the probe, and the last write. -/
theorem beginCompletes : Obligations.BeginCompletes := by
  refine fun s => ⟨fun k reg v hkrv hstep => exec_begin_write hkrv hstep, fun hstep => ?_, exec_begin_psm⟩
  rw [exec_begin_probe hstep]
  refine ⟨fun w ho hid => ?_, fun w ho hid => ?_, fun c ho => ?_⟩
  · rw [beginProbe_of_match ho hid]; rfl
  · rw [beginProbe_of_mismatch ho hid]; rfl
  · rw [beginProbe_of_err ho]; rfl

/-! ## RELEASE's transactions (R156) -/

theorem rmwRead_of_ok {onFail : ReadCause → State → State} {k : BitVec 3} {w : Word}
    (h : s.readOutcome Reg.alsConf = .ok w) :
    rmwRead onFail k s = { (s.afterRead Reg.alsConf).goto (k + 1) with confW := w } := by
  simp [rmwRead, h]

theorem rmwRead_of_err {onFail : ReadCause → State → State} {k : BitVec 3} {c : ReadCause}
    (h : s.readOutcome Reg.alsConf = .err c) : rmwRead onFail k s = onFail c (s.afterRead Reg.alsConf) := by
  simp [rmwRead, h]

/-- Disabling the interrupt clears bit 1 and nothing else (spec 43_interrupt.md R211). -/
theorem AlsConf.withIntEn_zero (w : Word) : AlsConf.withIntEn 0 w = w &&& 0xFFFD := by
  simp [AlsConf.withIntEn, AlsConf.intEnMask]

/-- Settles O35: the read on either outcome, and the write. -/
theorem releaseCompletes : Obligations.ReleaseCompletes := by
  refine fun s => ⟨fun hstep => ⟨fun w ho => ?_, fun c ho => ?_⟩, fun hstep => ?_⟩
  · rw [exec_release_read hstep, rmwRead_of_ok ho]; rfl
  · rw [exec_release_read hstep, rmwRead_of_err ho]; rfl
  · rw [exec_release_write hstep, rmwWrite, AlsConf.withIntEn_zero]; rfl

/-! ## The transitions of STATE (R150) -/

/-- A micro-step leaves `STATE` as it was, but for BEGIN's failing probe and the last ones of BEGIN and RELEASE. -/
theorem MicroStep.state_kept_or_moved {i : Instr} {t : State} (h : MicroStep i s t) :
    t.state = s.state ∨ FailsProbe i s t ∨
      (i = .begin ∧ s.stepIx = 6 ∧ t.state = .configured ∧ t.status = .ok) ∨
      (i = .release ∧ t.state = .uninit ∧ t.status = .ok) := by
  cases h with
  | goesOn _ _ _ state => exact .inl state
  | refused => exact .inl rfl
  | mismatch probe => exact .inr (.inl ⟨probe.cmd, probe.probe, probe.unmatched, probe.state⟩)
  | busError _ _ failed =>
    obtain probe | ⟨-, state⟩ := failed
    · exact .inr (.inl ⟨probe.cmd, probe.probe, probe.unmatched, probe.state⟩)
    · exact .inl state
  | done _ _ succeeds =>
    cases succeeds with
    | kept _ state | setLens _ state => exact .inl state
    | begin cmd last state => exact .inr (.inr (.inl ⟨cmd, last, state, rfl⟩))
    | release cmd state => exact .inr (.inr (.inr ⟨cmd, state, rfl⟩))

/-- Settles O16: the kinds of step, and of the micro-steps those that write STATE; the invariant says that a running
BEGIN has it at `PROBING`. -/
theorem stateTransitionsAreTheListedOnes : Obligations.StateTransitionsAreTheListedOnes := by
  intro s t inv h hne
  obtain ⟨hr, rfl⟩ | ⟨hr, hb, t', hrun, rfl⟩ | ⟨hr, hb, hv, rfl⟩ | ⟨-, -, -, rfl⟩ := step_cases h
  · exact .inl ⟨hr, rfl⟩
  · obtain ⟨i, hc, he⟩ | ⟨-, rfl⟩ := runCur_cases hrun
    · obtain hkept | probe | ⟨rfl, hlast, hstate, hok⟩ | ⟨rfl, hstate, hok⟩ := (exec_microStep he).state_kept_or_moved
      · exact absurd hkept hne
      · obtain ⟨rfl, hprobe, hunmatched, hstate⟩ := probe
        exact .inr (.inr (.inl ⟨hr, inv.probing.2 ⟨hb, hc⟩, hc, hprobe, hstate,
          fun w ho => of_decide_eq_false (hunmatched w ho)⟩))
      · exact .inr (.inr (.inr (.inl ⟨hr, inv.probing.2 ⟨hb, hc⟩, hc, hlast, hstate, hok⟩)))
      · exact .inr (.inr (.inr (.inr ⟨hr, hb, hc, hstate, hok⟩)))
    · exact absurd rfl hne
  · by_cases hw : decode s.portNow.cmdWord = some .begin
    · exact .inr (.inl ⟨hr, hb, hv, hw, if_pos hw⟩)
    · exact absurd (if_neg hw) hne
  · exact absurd rfl hne

/-! ## A whole BEGIN (R151, R153)

A run of BEGIN ends as its pseudocode does, so what the pseudocode leaves, for each outcome of the ID read, is what the
run leaves. -/

/-- What two states that show the same agree on. -/
theorem State.eq_of_visible_eq {t z : State} (h : t.visible = z.visible) :
    t.state = z.state ∧ t.lens = z.lens ∧ t.status = z.status ∧ t.result = z.result ∧ t.err = z.err ∧
      t.trace = z.trace := by
  have shown {α : Type} (f : State → α) : f t.visible = f z.visible := congrArg f h
  exact ⟨shown State.state, shown State.lens, shown State.status, shown State.result, shown State.err,
    shown State.trace⟩

/-- The state in which BEGIN reads the ID: the two defensive writes have been made, whatever they answered (R151). -/
def State.defended (s : State) : State := (s.afterWrite Reg.wl 0x0000).afterWrite Reg.wl 0x0000

/-- The state after the four writes of the defaults that follow a matching ID (R152). -/
def State.afterDefaults (s : State) : State :=
  (((s.afterWrite Reg.alsConf AlsConf.default).afterWrite Reg.wh 0xFFFF).afterWrite Reg.wl 0x0000).afterWrite
    Reg.psm 0x0000

@[simp] theorem State.defended_lens (s : State) : s.defended.lens = s.lens := rfl

theorem State.defended_trace (s : State) :
    ∃ o1 o2, s.defended.trace = s.trace ++ [.write Reg.wl 0x0000 o1, .write Reg.wl 0x0000 o2] :=
  ⟨_, _, List.append_assoc _ _ _⟩

theorem State.afterDefaults_trace (s : State) :
    ∃ o3 o4 o5 o6, s.afterDefaults.trace = s.trace ++ [.write Reg.alsConf AlsConf.default o3, .write Reg.wh 0xFFFF o4,
      .write Reg.wl 0x0000 o5, .write Reg.psm 0x0000 o6] :=
  ⟨_, _, _, _, by simp only [State.afterDefaults, State.afterWrite_trace, List.append_assoc]; rfl⟩

theorem pseudoBegin_of_err {c : ReadCause} (h : s.defended.readOutcome Reg.ident = .err c) :
    pseudoBegin s =
      { s.defended.afterRead Reg.ident with state := .failed }.raiseBusError c.cause 2 Reg.ident := by
  rw [State.defended] at h ⊢
  simp only [pseudoBegin, h]

theorem pseudoBegin_of_mismatch {w : Word} (h : s.defended.readOutcome Reg.ident = .ok w) (hid : lowByte w ≠ 0x83) :
    pseudoBegin s = { s.defended.afterRead Reg.ident with state := .failed }.fail .identityMismatch 0x0726 := by
  rw [State.defended] at h ⊢
  simp only [pseudoBegin, h, hid, ne_eq, not_false_eq_true, if_true]

theorem pseudoBegin_of_match {w : Word} (h : s.defended.readOutcome Reg.ident = .ok w) (hid : lowByte w = 0x83) :
    pseudoBegin s =
      { (s.defended.afterRead Reg.ident).afterDefaults with lens := lensOne, state := .configured }.finish .ok 0 0 := by
  rw [State.defended] at h ⊢
  simp only [pseudoBegin, h, hid, ne_eq, not_true_eq_false, if_false]
  rfl

/-- Settles O50: the run ends as the pseudocode does, which the ID read alone decides. -/
theorem beginDependsOnTheIdReadOnly : Obligations.BeginDependsOnTheIdReadOnly := by
  intro s h
  obtain ⟨t, hrun, -, hvis⟩ := microStepsRunThePseudocode .begin s h
  obtain ⟨o1, o2, defended⟩ := s.defended_trace
  have probed : (s.defended.afterRead Reg.ident).trace =
      s.trace ++ [.write Reg.wl 0x0000 o1, .write Reg.wl 0x0000 o2,
        .read Reg.ident (s.defended.readOutcome Reg.ident)] := by
    rw [State.afterRead_trace, defended, List.append_assoc]
    rfl
  refine ⟨t, o1, o2, hrun, ?_⟩
  cases ho : s.defended.readOutcome Reg.ident with
  | err c =>
    rw [ho] at probed
    rw [pseudocode, pseudoBegin_of_err ho] at hvis
    obtain ⟨state, lens, status, result, err, trace⟩ := State.eq_of_visible_eq hvis
    exact .inr (.inr ⟨c, trace.trans probed, status, result, err, state, by simpa using lens⟩)
  | ok w =>
    rw [ho] at probed
    by_cases hid : lowByte w = 0x83
    · rw [pseudocode, pseudoBegin_of_match ho hid] at hvis
      obtain ⟨state, lens, status, result, err, trace⟩ := State.eq_of_visible_eq hvis
      obtain ⟨o3, o4, o5, o6, defaults⟩ := (s.defended.afterRead Reg.ident).afterDefaults_trace
      rw [probed, List.append_assoc] at defaults
      exact .inl ⟨w, o3, o4, o5, o6, hid, trace.trans defaults, status, result, err, state, lens⟩
    · rw [pseudocode, pseudoBegin_of_mismatch ho hid] at hvis
      obtain ⟨state, lens, status, result, err, trace⟩ := State.eq_of_visible_eq hvis
      exact .inr (.inl ⟨w, hid, trace.trans probed, status, result, err, state, by simpa using lens⟩)

end Sys2Proof.Machine
end

section
/-! PROOFS. The photometric converter: its tables, the conversion as a count shifted left and multiplied by LENS, and
the two commands that read a count (spec 42_converter.md). -/

namespace Sys2Proof.Machine

/-! ## The fields of ALS_CONF that the converter reads (R181) -/

/-- The bits that the four fields make up: masking a word to them changes no field. -/
theorem AlsConf.fields_and_mask (conf : Word) :
    AlsConf.it (conf &&& 0x1FC0) = AlsConf.it conf ∧ AlsConf.gain (conf &&& 0x1FC0) = AlsConf.gain conf ∧
      AlsConf.dg (conf &&& 0x1FC0) = AlsConf.dg conf ∧ AlsConf.sens (conf &&& 0x1FC0) = AlsConf.sens conf := by
  refine ⟨?_, by simp [AlsConf.gain], by simp [AlsConf.dg], by simp [AlsConf.sens]⟩
  have hmask : (0x1FC0 : Word).extractLsb' 6 4 = BitVec.allOnes 4 := by decide
  rw [AlsConf.it, BitVec.extractLsb'_and, hmask, BitVec.and_allOnes, AlsConf.it]

theorem convert_and_mask (conf count : Word) (lens : Lens) :
    convert (conf &&& 0x1FC0) count lens = convert conf count lens := by
  obtain ⟨hit, hgain, hdg, hsens⟩ := AlsConf.fields_and_mask conf
  rw [convert, countProduct, hit, hgain, hdg, hsens, ← countProduct, ← convert]

/-- Settles O40: the word may be masked to the bits of its fields before it is converted. -/
theorem converterReadsOnlyBitsSixToTwelve : Obligations.ConverterReadsOnlyBitsSixToTwelve := by
  refine ⟨fun _ => ⟨rfl, rfl, rfl, rfl⟩, fun conf conf' count lens h => ?_⟩
  rw [← convert_and_mask conf, h, convert_and_mask]

/-! ## The factors (R182 to R185) -/

/-- The source's resolutions in lux per count, by index (R183). -/
def luxPerCount : List Rat := [128 / 10000, 64 / 10000, 32 / 10000, 16 / 10000, 8 / 10000, 4 / 10000]

theorem resolutionIndex_lt : ∀ it, resolutionIndex it < 6 := by decide

theorem resolutionTable_getD : ∀ k < 6, resolutionTable.getD k 0 = 2 ^ (5 - k) := by decide

theorem resolutionTable_div {k : Nat} (hk : k < 6) :
    (resolutionTable.getD k 0 : Rat) / 2500 = luxPerCount.getD k 0 := by
  interval_cases k <;> norm_num [resolutionTable, luxPerCount]

/-- Settles O41: the sixteen codes one by one, and the six entries of the table. -/
theorem resolutionOfEveryCode : Obligations.ResolutionOfEveryCode :=
  ⟨by decide, by decide, rfl, fun k hk => ⟨resolutionTable_getD k hk, resolutionTable_div hk⟩⟩

theorem resolution_eq_two_pow (it : BitVec 4) : resolution it = 2 ^ (5 - resolutionIndex it) :=
  resolutionTable_getD _ (resolutionIndex_lt it)

/-- The codes from 4 on are told apart by their two high bits alone. -/
theorem and_eq_twelve_iff : ∀ it : BitVec 4, it &&& 0xC = 0xC ↔ it.extractLsb' 2 2 = 3 := by decide

theorem resolutionIndex_it (conf : Word) :
    resolutionIndex (AlsConf.it conf) =
      if conf.extractLsb' 6 4 ≤ (3 : BitVec 4) then (conf.extractLsb' 6 4).toNat + 2
      else if (conf.extractLsb' 8 2 : BitVec 2) = 3 then 0 else 1 := by
  simp only [resolutionIndex, and_eq_twelve_iff, AlsConf.it,
    extractLsb'_extractLsb' conf (show 2 + 2 ≤ 4 by decide), Nat.reduceAdd]

theorem dgFactor_eq_two_pow (dg : Bool) : dgFactor dg = 2 ^ (if dg then 0 else 1) := by cases dg <;> rfl

theorem gainFactor_eq_ite (gain sens : Bool) :
    gainFactor gain sens = if gain then (if sens then 8 else 1) else (if sens then 16 else 2) := by
  cases gain <;> cases sens <;> rfl

/-- The base-two logarithm of the gain factor. -/
def gainShift (gain sens : Bool) : Nat := if gain then (if sens then 3 else 0) else (if sens then 4 else 1)

theorem gainShift_le (gain sens : Bool) : gainShift gain sens ≤ 4 := by revert gain sens; decide

theorem gainFactor_eq_two_pow (gain sens : Bool) : gainFactor gain sens = 2 ^ gainShift gain sens := by
  cases gain <;> cases sens <;> rfl

/-! ## The count product is a shift (R186) -/

/-- The `k` of R186. -/
def countShift (conf : Word) : Nat :=
  (5 - resolutionIndex (AlsConf.it conf)) + (if AlsConf.dg conf then 0 else 1) +
    gainShift (AlsConf.gain conf) (AlsConf.sens conf)

theorem countShift_le (conf : Word) : countShift conf ≤ 10 := by
  have hgain := gainShift_le (AlsConf.gain conf) (AlsConf.sens conf)
  unfold countShift
  split <;> omega

theorem countProduct_eq_mul_two_pow (conf count : Word) :
    countProduct conf count = count.toNat * 2 ^ countShift conf := by
  rw [countProduct, resolution_eq_two_pow, dgFactor_eq_two_pow, gainFactor_eq_two_pow, countShift, pow_add, pow_add]
  simp only [Nat.mul_assoc]

theorem countProduct_le (conf count : Word) : countProduct conf count ≤ 67107840 :=
  calc countProduct conf count
      = count.toNat * 2 ^ countShift conf := countProduct_eq_mul_two_pow conf count
    _ ≤ (2 ^ 16 - 1) * 2 ^ 10 :=
      Nat.mul_le_mul (Nat.le_sub_one_of_lt count.isLt) (Nat.pow_le_pow_right (by decide) (countShift_le conf))

/-! ## The lens product never wraps (R187) -/

theorem countProduct_mul_lens_le (conf count : Word) (lens : Lens) :
    countProduct conf count * lens.toNat ≤ 288225978038092800 :=
  Nat.mul_le_mul (countProduct_le conf count) (Nat.le_sub_one_of_lt lens.isLt)

theorem toNat_convert (conf count : Word) (lens : Lens) :
    (convert conf count lens).toNat = countProduct conf count * lens.toNat := by
  rw [convert, BitVec.toNat_ofNat]
  exact Nat.mod_eq_of_lt ((countProduct_mul_lens_le conf count lens).trans_lt (by decide))

theorem extractLsb'_above_zeroExtend (x : BitVec 58) : (x.zeroExtend 64).extractLsb' 58 6 = 0 := by
  ext i hi
  simp [BitVec.zeroExtend]

/-- Settles O42: the product fits, so the result is the product itself, and its three factors are powers of two. -/
theorem convertIsTheExactProduct : Obligations.ConvertIsTheExactProduct := by
  refine ⟨fun conf count lens => ⟨?_, toNat_convert conf count lens, extractLsb'_above_zeroExtend _,
    countProduct_le conf count, ?_, countShift conf, gainShift (AlsConf.gain conf) (AlsConf.sens conf),
    gainFactor_eq_two_pow _ _, rfl, countShift_le conf, countProduct_eq_mul_two_pow conf count⟩, by decide⟩
  · rw [countProduct, gainFactor_eq_ite]
    rfl
  · rw [toNat_convert]
    exact countProduct_mul_lens_le conf count lens

/-! ## What the result stands for (R188) -/

theorem resolution_div (it : BitVec 4) : (resolution it : Rat) / 2500 = luxPerCount.getD (resolutionIndex it) 0 :=
  resolutionTable_div (resolutionIndex_lt it)

/-- The result's unit, 1/163840000 lux, is the table's 1/2500 times the lens factor's 1/65536. -/
theorem convert_div (conf count : Word) (lens : Lens) :
    ((convert conf count lens).toNat : Rat) / 163840000 =
      count.toNat * luxPerCount.getD (resolutionIndex (AlsConf.it conf)) 0 * dgFactor (AlsConf.dg conf) *
        gainFactor (AlsConf.gain conf) (AlsConf.sens conf) * (lens.toNat / 65536) := by
  rw [← resolution_div, toNat_convert, countProduct]
  push_cast
  ring

/-- Settles O43: the factors in LUT units are the source's decimals over their common unit. -/
theorem resultStandsForTheDecimalFormula : Obligations.ResultStandsForTheDecimalFormula := by
  intro conf count lens
  rw [convert_div, resolutionIndex_it, gainFactor_eq_ite, dgFactor]
  push_cast
  rfl

/-! ## Monotonicity (R193) -/

/-- In the count, the conversion is the multiplication by one constant. -/
theorem toNat_convert_eq_count_mul (conf count : Word) (lens : Lens) :
    (convert conf count lens).toNat = count.toNat * (2 ^ countShift conf * lens.toNat) := by
  rw [toNat_convert, countProduct_eq_mul_two_pow, Nat.mul_assoc]

/-- Settles O44: for the two orders, the constant that the count is multiplied by; against monotonicity in the code, the
codes 0, 3 and 4, whose resolutions are 8, 1 and 16. -/
theorem convertIsMonotoneInTheCount : Obligations.ConvertIsMonotoneInTheCount := by
  refine ⟨fun conf c c' lens h => ?_, fun conf c c' lens hlens h => ?_, 0x0000, 0x00C0, 0x0100, 1, 1, by decide⟩
  · rw [BitVec.le_def, toNat_convert_eq_count_mul, toNat_convert_eq_count_mul]
    exact Nat.mul_le_mul_right _ h
  · rw [BitVec.lt_def, toNat_convert_eq_count_mul, toNat_convert_eq_count_mul]
    exact Nat.mul_lt_mul_of_pos_right h (Nat.mul_pos (Nat.two_pow_pos _) hlens)

/-! ## READ_ALS and GET_LUX (R190, R192) -/

section
variable {s : State}

theorem getLuxConf_of_ok {w : Word} (h : s.readOutcome Reg.alsConf = .ok w) :
    getLuxConf s = { (s.afterRead Reg.alsConf).goto 1 with confW := w } := by
  simp only [getLuxConf, h]

theorem getLuxConf_of_err {c : ReadCause} (h : s.readOutcome Reg.alsConf = .err c) :
    getLuxConf s = (s.afterRead Reg.alsConf).raiseBusError c.cause 0 Reg.alsConf := by
  simp only [getLuxConf, h]

theorem getLuxCount_of_ok {w : Word} (h : s.readOutcome Reg.als = .ok w) :
    getLuxCount s =
      { s.afterRead Reg.als with count := w }.finish .ok ((convert s.confW w s.lens).zeroExtend 64) 0 := by
  simp only [getLuxCount, h]

theorem getLuxCount_of_err {c : ReadCause} (h : s.readOutcome Reg.als = .err c) :
    getLuxCount s = (s.afterRead Reg.als).raiseBusError c.cause 1 Reg.als := by
  simp only [getLuxCount, h]

end

/-- Settles O27: the one read, of the register ALS, and how the command ends on either outcome. -/
theorem readAlsCompletes : Obligations.ReadAlsCompletes := by
  refine fun s hstep => ⟨fun w ho => ?_, fun c ho => ?_⟩ <;> rw [exec_readAls hstep]
  · rw [readThenFinish_of_ok (reg := Reg.als) _ ho]; rfl
  · rw [readThenFinish_of_err (reg := Reg.als) _ ho]; rfl

/-- Settles O31: each of the two reads on either outcome; only a configuration read leads to the count. -/
theorem getLuxCompletes : Obligations.GetLuxCompletes := by
  refine fun s => ⟨fun hstep => ?_, fun hstep => ?_⟩
  · rw [exec_getLux_conf hstep]
    refine ⟨fun w ho => ?_, fun c ho => ?_⟩
    · rw [getLuxConf_of_ok ho]; rfl
    · rw [getLuxConf_of_err ho]; rfl
  · rw [exec_getLux_count hstep]
    refine ⟨fun w ho => ?_, fun c ho => ?_⟩
    · rw [getLuxCount_of_ok ho]; rfl
    · rw [getLuxCount_of_err ho]; rfl

end Sys2Proof.Machine
end

section
/-! PROOFS. The interrupt unit, micro-step by micro-step: the interrupt-enable update (spec 43_interrupt.md R211), and the
transactions of READ_CLEAR_FLAGS (R230), SET_INT_EN (R212) and ARM_THRESHOLD (R220). -/

namespace Sys2Proof.Machine

/-! ## The interrupt-enable update (R211) -/

theorem AlsConf.withIntEn_eq (en : BitVec 1) (w : Word) :
    AlsConf.withIntEn en w = (w &&& 0xFFFD) ||| (en.zeroExtend 16 <<< 1) := rfl

/-- Enabling the interrupt sets bit 1 and nothing else. -/
theorem AlsConf.withIntEn_one (w : Word) : AlsConf.withIntEn 1 w = (w &&& 0xFFFD) ||| 0x0002 := rfl

/-- Every bit of the word written back: bit 1 as asked, each other as read. -/
theorem AlsConf.getLsbD_withIntEn (en : BitVec 1) (w : Word) {i : Nat} (hi : i < 16) :
    (AlsConf.withIntEn en w).getLsbD i = if i = 1 then en.getLsbD 0 else w.getLsbD i := by
  have mask : (~~~AlsConf.intEnMask).getLsbD i = decide (i ≠ 1) := by
    revert i
    decide
  rw [withIntEn, BitVec.getLsbD_or, BitVec.getLsbD_and, mask, BitVec.getLsbD_shiftLeft]
  by_cases h1 : i = 1
  · simp [h1]
  · by_cases h0 : i = 0
    · simp [h0]
    · have above : en.getLsbD (i - 1) = false := BitVec.getLsbD_of_ge _ _ (by omega)
      simp [h1, above]

/-- Settles O45: the model's mask is the complement of bit 1, and the enable is shifted to bit 1. -/
theorem intEnUpdateChangesOnlyBitOne : Obligations.IntEnUpdateChangesOnlyBitOne :=
  fun en w => ⟨AlsConf.withIntEn_eq en w, fun _ hi => AlsConf.getLsbD_withIntEn en w hi⟩

/-! ## READ_CLEAR_FLAGS (R230) -/

/-- The flag test is on the two highest bits of IF. -/
theorem flagSet_eq_false_iff (w : Word) : flagSet w = false ↔ w &&& 0xC000 = 0 := by
  rw [flagSet, Bool.or_eq_false_iff]
  refine ⟨fun ⟨h14, h15⟩ => BitVec.eq_of_getLsbD_eq fun i hi => ?_, fun h => ?_⟩
  · have mask : (0xC000 : Word).getLsbD i = decide (i = 14 ∨ i = 15) := by
      revert i
      decide
    have flags : i = 14 ∨ i = 15 → w.getLsbD i = false := by
      rintro (rfl | rfl)
      · exact h14
      · exact h15
    rw [BitVec.getLsbD_and, mask]
    by_cases h : i = 14 ∨ i = 15
    · simp [flags h]
    · simp [h]
  · have bit (i : Nat) : (w.getLsbD i && (0xC000 : Word).getLsbD i) = false := by
      rw [← BitVec.getLsbD_and, h]; simp
    exact ⟨by simpa using bit 14, by simpa using bit 15⟩

theorem flagResult_eq (w : Word) :
    (if flagSet w then (1 : BitVec 64) else 0) = if w &&& 0xC000 = 0 then 0 else 1 := by
  simp only [← flagSet_eq_false_iff]
  cases flagSet w <;> rfl

/-- Settles O28: the one read, of the register IF, and how the command ends on either outcome. -/
theorem readClearFlagsCompletes : Obligations.ReadClearFlagsCompletes := by
  refine fun s hstep => ⟨fun w ho => ?_, fun c ho => ?_⟩ <;> rw [exec_readClearFlags hstep]
  · rw [readThenFinish_of_ok (reg := Reg.intFlags) _ ho, flagResult_eq]; rfl
  · rw [readThenFinish_of_err (reg := Reg.intFlags) _ ho]; rfl

/-! ## SET_INT_EN (R212) -/

/-- The write half of an interrupt-enable update, for the word that it writes and the outcome that it meets. -/
theorem rmwWrite_of_outcome {en : BitVec 1} {andThen : WriteOutcome → State → State} {s : State} {w' : Word}
    {o : WriteOutcome} (hw : w' = AlsConf.withIntEn en s.confW) (ho : s.writeOutcome Reg.alsConf w' = o) :
    rmwWrite en andThen s = andThen o (s.afterWrite Reg.alsConf w') := by
  rw [rmwWrite, ← hw, ho]

/-- Settles O32: the read and the write, each on either outcome. -/
theorem setIntEnCompletes : Obligations.SetIntEnCompletes := by
  refine fun en s => ⟨fun hstep => ?_, fun hstep w' hw => ?_⟩
  · rw [exec_setIntEn_read hstep]
    refine ⟨fun w ho => ?_, fun c ho => ?_⟩
    · rw [rmwRead_of_ok ho]; rfl
    · rw [rmwRead_of_err ho]; rfl
  · rw [exec_setIntEn_write hstep]
    refine ⟨fun ho => ?_, fun ho => ?_⟩ <;> rw [rmwWrite_of_outcome hw ho] <;> rfl

/-! ## ARM_THRESHOLD (R220) -/

/-- Both thresholds as one value: the high one above the low one. -/
theorem thresholds_eq_append (wh wl : Word) :
    ((wh.zeroExtend 32 <<< 16) ||| wl.zeroExtend 32).zeroExtend 64 = (0 : BitVec 32) ++ wh ++ wl := by
  refine BitVec.eq_of_getLsbD_eq fun i hi => ?_
  simp only [BitVec.getLsbD_append, BitVec.getLsbD_setWidth, BitVec.getLsbD_or, BitVec.getLsbD_shiftLeft]
  by_cases hlow : i < 16
  · simp [hlow, hi, show i < 32 by omega]
  · by_cases hhigh : i < 32
    · have above : wl.getLsbD i = false := BitVec.getLsbD_of_ge _ _ (by omega)
      simp [hlow, hhigh, above, show i - 16 < 16 by omega, show i - 16 < 32 by omega, hi]
    · simp [hlow, hhigh, show ¬ i - 16 < 16 by omega]

section
variable {s : State} {p : Int}

theorem armReadCount_of_ok {w : Word} (h : s.readOutcome Reg.als = .ok w) :
    armReadCount p s =
      { (s.afterRead Reg.als).goto 1 with count := w, whV := (window w p).1, wlV := (window w p).2 } := by
  simp only [armReadCount, h]

theorem armReadCount_of_err {c : ReadCause} (h : s.readOutcome Reg.als = .err c) :
    armReadCount p s = (s.afterRead Reg.als).raiseBusError c.cause 0 Reg.als := by
  simp only [armReadCount, h]

/-- The two reads of ALS_CONF, by their index. -/
theorem exec_armThreshold_read {k : BitVec 3} (h : k = 1 ∨ k = 5) (hstep : s.stepIx = k) :
    exec (.armThreshold p) s =
      .next (rmwRead (fun c t => t.raiseBusError c.cause (k.zeroExtend 4) Reg.alsConf) k s) := by
  obtain rfl | rfl := h
  · exact exec_armThreshold_disable_read hstep
  · exact exec_armThreshold_enable_read hstep

/-- The three writes that another transaction follows, by their index. -/
theorem exec_armThreshold_write {k : BitVec 3} {reg : RegAddr} {v : Word}
    (h : (k, reg, v) ∈
      [((2 : BitVec 3), Reg.alsConf, s.confW &&& 0xFFFD), (3, Reg.wh, s.whV), (4, Reg.wl, s.wlV)])
    (hstep : s.stepIx = k) :
    exec (.armThreshold p) s = .next (armGoOn k reg (s.writeOutcome reg v) (s.afterWrite reg v)) := by
  simp only [List.mem_cons, Prod.mk.injEq, List.not_mem_nil, or_false] at h
  obtain ⟨rfl, rfl, rfl⟩ | ⟨rfl, rfl, rfl⟩ | ⟨rfl, rfl, rfl⟩ := h
  · rw [exec_armThreshold_disable_write hstep, rmwWrite, AlsConf.withIntEn_zero]
  · exact exec_armThreshold_wh hstep
  · exact exec_armThreshold_wl hstep

end

/-- Settles O33: the argument check, the read of the count, the reads and writes that another transaction follows, and
the last write. -/
theorem armThresholdCompletes : Obligations.ArmThresholdCompletes := by
  refine fun p s => ⟨exec_armThreshold_refused, fun hstep hp => ?_, fun k hk hstep => ?_,
    fun k reg v hkrv hstep => ?_, fun hstep w' hw => ?_⟩
  · rw [exec_armThreshold_count hstep hp]
    refine ⟨fun w ho => ?_, fun c ho => ?_⟩
    · rw [armReadCount_of_ok ho]; rfl
    · rw [armReadCount_of_err ho]; rfl
  · rw [exec_armThreshold_read hk hstep]
    refine ⟨fun w ho => ?_, fun c ho => ?_⟩
    · rw [rmwRead_of_ok ho]; rfl
    · rw [rmwRead_of_err ho]; rfl
  · rw [exec_armThreshold_write hkrv hstep]
    refine ⟨fun ho => ?_, fun ho => ?_⟩ <;> rw [ho] <;> rfl
  · rw [exec_armThreshold_enable_write hstep]
    rw [← AlsConf.withIntEn_one] at hw
    refine ⟨fun ho => ?_, fun ho => ?_⟩ <;> rw [rmwWrite_of_outcome hw ho]
    · rw [armDone, thresholds_eq_append]; rfl
    · rfl

end Sys2Proof.Machine
end

section
/-! PROOFS. The threshold window (spec 43_interrupt.md R215 to R217). -/

namespace Sys2Proof.Machine

section
variable (count : Word) (p : Int)

/-! ## The exact thresholds (R215) -/

/-- The width test, on the exact rationals. -/
theorem highThreshold_eq_ite :
    highThreshold count p =
      if (count.toNat : Rat) * (100 + p) / 100 - (count.toNat : Rat) * (100 - p) / 100 < 1 then
        (count.toNat : Rat) * (100 + p) / 100 + 1
      else (count.toNat : Rat) * (100 + p) / 100 := by
  simp only [highThreshold, windowTooNarrow, decide_eq_true_eq]

/-- The width test as the integer datapath makes it: `wh − wl = 2 · count · p / 100` (R216). -/
theorem width_lt_one_iff :
    (count.toNat : Rat) * (100 + p) / 100 - (count.toNat : Rat) * (100 - p) / 100 < 1 ↔
      (count.toNat : Int) * p < 50 := by
  have width : (count.toNat : Rat) * (100 + p) / 100 - (count.toNat : Rat) * (100 - p) / 100 =
      ((count.toNat * p : Int) : Rat) / 50 := by
    push_cast
    ring
  rw [width, div_lt_one (by norm_num)]
  exact_mod_cast Iff.rfl

/-! ## The thresholds as quotients (R216) -/

theorem floor_highThreshold :
    ⌊highThreshold count p⌋ =
      ((count.toNat : Int) * (100 + p) + (if (count.toNat : Int) * p < 50 then 100 else 0)) / 100 := by
  rw [highThreshold_eq_ite, ← Nat.cast_ofNat (R := Int) (n := 100), ← Rat.floor_intCast_div_natCast]
  simp only [width_lt_one_iff]
  congr 1
  split <;> push_cast <;> ring

theorem floor_lowThreshold : ⌊lowThreshold count p⌋ = (count.toNat : Int) * (100 - p) / 100 := by
  rw [lowThreshold, ← Nat.cast_ofNat (R := Int) (n := 100), ← Rat.floor_intCast_div_natCast]
  push_cast
  rfl

end

/-! ## The obligations -/

/-- Settles O46: the window's two casts, which lose nothing, of the exact thresholds. -/
theorem windowIsExactThenFloored : Obligations.WindowIsExactThenFloored := by
  rintro count p hp _ _ rfl rfl
  have hhigh := one_le_highThreshold (count := count) hp
  have hlow := lowThreshold_le (count := count) hp
  rw [← highThreshold_eq_ite]
  exact ⟨window_fst_toNat (by linarith), window_snd_toNat (by linarith)⟩

/-- Settles O47: `floor` is monotone, so it may be taken before the clamps, where it is an integer quotient. -/
theorem windowHasTheIntegerForm : Obligations.WindowHasTheIntegerForm := by
  intro count p hp _
  have hhigh := one_le_highThreshold (count := count) (p := p) (by omega)
  have hlow := lowThreshold_le (count := count) (p := p) (by omega)
  rw [window_fst_toNat (by linarith), window_snd_toNat (by linarith), Int.floor_mono.map_min, Int.floor_mono.map_max,
    Int.floor_ofNat, Int.floor_zero, floor_highThreshold, floor_lowThreshold]
  refine ⟨rfl, ?_⟩
  split <;> omega

/-- Settles O48: the gap of the clamped and floored window, and the example from the integer datapath. -/
theorem windowIsNeverEmpty : Obligations.WindowIsNeverEmpty := by
  refine ⟨fun _ _ => window_snd_add_one_le_fst, ?_⟩
  obtain ⟨hhigh, hlow⟩ := windowHasTheIntegerForm 10 1 (by decide) (by decide)
  exact Prod.ext (BitVec.eq_of_toNat_eq (Int.ofNat_inj.1 hhigh)) (BitVec.eq_of_toNat_eq (Int.ofNat_inj.1 hlow))

end Sys2Proof.Machine
end

section
/-! PROOFS. A whole ARM_THRESHOLD (spec 43_interrupt.md R220 to R222). A run ends as its pseudocode does, and the pseudocode
either makes all of its seven transactions or stops at the first that fails: `ArmRun` says so, and both obligations read
it. -/

namespace Sys2Proof.Machine

/-! ## The transactions of a run -/

/-- The transactions of a successful ARM_THRESHOLD in their order, with the words that its three reads return (R220). -/
def armEvents (p : Int) (count conf conf' : Word) : List BusEvent :=
  [.read Reg.als (.ok count), .read Reg.alsConf (.ok conf), .write Reg.alsConf (conf &&& 0xFFFD) .ok,
    .write Reg.wh (window count p).1 .ok, .write Reg.wl (window count p).2 .ok, .read Reg.alsConf (.ok conf'),
    .write Reg.alsConf ((conf' &&& 0xFFFD) ||| 0x0002) .ok]

/-- From `s` to `z` a whole ARM_THRESHOLD with a positive percentage was run: all seven transactions, or those before the
transaction `k` and then this one, which failed. A word that no read returned is free. -/
inductive ArmRun (p : Int) (s z : State) (count conf conf' : Word) : Prop where
  | succeeded (status : z.status = .ok) (trace : s.added z (armEvents p count conf conf'))
      (result : z.result = (0 : BitVec 32) ++ (window count p).1 ++ (window count p).2)
      (written : z.written =
        (((s.written.writeWord Reg.alsConf (conf &&& 0xFFFD)).writeWord Reg.wh (window count p).1).writeWord Reg.wl
          (window count p).2).writeWord Reg.alsConf ((conf' &&& 0xFFFD) ||| 0x0002))
  | failed (k : Nat) (le : k ≤ 6) (e : BusEvent) (failure : e.succeeded = false) (status : z.status = .busError)
      (step : (z.err.extractLsb' 4 4).toNat = k) (trace : s.added z ((armEvents p count conf conf').take k ++ [e]))

section
variable {p : Int} {s u z : State} {count conf conf' : Word}

/-- The failure of the transaction `j`, as the pseudocode reports it. -/
theorem ArmRun.of_raiseBusError {c : Cause} {j : BitVec 4} {reg : RegAddr} (e : BusEvent) (le : j.toNat ≤ 6)
    (failure : e.succeeded = false) (trace : s.added u ((armEvents p count conf conf').take j.toNat ++ [e])) :
    ArmRun p s (u.raiseBusError c j reg) count conf conf' :=
  .failed j.toNat le e failure rfl (by rw [State.raiseBusError_err, errWord_step]) trace

/-- What is said of a run is seen by the host and the sensor. -/
theorem ArmRun.of_visible_eq {t : State} (run : ArmRun p s z count conf conf') (h : t.visible = z.visible) :
    ArmRun p s t count conf conf' := by
  obtain ⟨-, -, status, result, err, trace⟩ := State.eq_of_visible_eq h
  have written : t.visible.written = z.visible.written := congrArg State.written h
  cases run with
  | succeeded ok added value wrote =>
    exact .succeeded (status.trans ok) (trace.trans added) (result.trans value) (written.trans wrote)
  | failed k le e failure busError step added =>
    exact .failed k le e failure (status.trans busError) (by rw [err, step]) (trace.trans added)

/-! ## The pseudocode of a run -/

/-- `set_int_en_rmw` stops at its read, or at its write, or makes both (R211). -/
theorem pseudoRmw_cases (en : BitVec 1) (j : BitVec 4) (s : State) :
    (∃ c v, pseudoRmw en j s = (v, some (ReadCause.cause c, j)) ∧
        v.trace = s.trace ++ [.read Reg.alsConf (.err c)]) ∨
      ∃ w v, (pseudoRmw en j s = (v, some (.writeNack, j + 1)) ∧
          v.trace = s.trace ++ [.read Reg.alsConf (.ok w), .write Reg.alsConf (AlsConf.withIntEn en w) .nack]) ∨
        (pseudoRmw en j s = (v, none) ∧
          v.trace = s.trace ++ [.read Reg.alsConf (.ok w), .write Reg.alsConf (AlsConf.withIntEn en w) .ok] ∧
          v.written = s.written.writeWord Reg.alsConf (AlsConf.withIntEn en w)) := by
  cases hread : s.readOutcome Reg.alsConf with
  | err c => exact .inl ⟨c, s.afterRead Reg.alsConf, by simp only [pseudoRmw, hread], by simp [hread]⟩
  | ok w =>
    refine .inr ⟨w, (s.afterRead Reg.alsConf).afterWrite Reg.alsConf (AlsConf.withIntEn en w), ?_⟩
    cases hwrite : (s.afterRead Reg.alsConf).writeOutcome Reg.alsConf (AlsConf.withIntEn en w) with
    | nack => exact .inl ⟨by simp only [pseudoRmw, hread, hwrite], by simp [hread, hwrite]⟩
    | ok => exact .inr ⟨by simp only [pseudoRmw, hread, hwrite], by simp [hread, hwrite], by simp [hwrite, Memory.note]⟩

/-- From the first write of a threshold on, where the count was read and the interrupt disabled. -/
theorem pseudoArmWrites_run (trace : ∀ conf', u.trace = s.trace ++ (armEvents p count conf conf').take 3)
    (written : u.written = s.written.writeWord Reg.alsConf (conf &&& 0xFFFD)) :
    ∃ conf', ArmRun p s (pseudoArmWrites (window count p).1 (window count p).2 u) count conf conf' := by
  have before := trace 0
  unfold pseudoArmWrites
  cases hwh : u.writeOutcome Reg.wh (window count p).1 with
  | nack =>
    exact ⟨0, .of_raiseBusError (.write Reg.wh (window count p).1 .nack) (by decide) rfl
      (by simp [State.added, before, hwh, armEvents])⟩
  | ok =>
    cases hwl : (u.afterWrite Reg.wh (window count p).1).writeOutcome Reg.wl (window count p).2 with
    | nack =>
      simp only [hwl]
      exact ⟨0, .of_raiseBusError (.write Reg.wl (window count p).2 .nack) (by decide) rfl
        (by simp [State.added, before, hwh, hwl, armEvents])⟩
    | ok =>
      simp only [hwl]
      obtain ⟨c, v, he, htrace⟩ | ⟨conf', v, ⟨he, htrace⟩ | ⟨he, htrace, hwritten⟩⟩ :=
        pseudoRmw_cases 1 5 ((u.afterWrite Reg.wh (window count p).1).afterWrite Reg.wl (window count p).2) <;>
        simp only [he]
      · exact ⟨0, .of_raiseBusError (.read Reg.alsConf (.err c)) (by decide) rfl
          (by simp [State.added, htrace, before, hwh, hwl, armEvents])⟩
      · exact ⟨conf', .of_raiseBusError (.write Reg.alsConf (AlsConf.withIntEn 1 conf') .nack) (by decide) rfl
          (by simp [State.added, htrace, before, hwh, hwl, armEvents])⟩
      · rw [AlsConf.withIntEn_one] at htrace hwritten
        exact ⟨conf', .succeeded rfl (by simp [State.added, htrace, before, hwh, hwl, armEvents])
          (thresholds_eq_append _ _) (by simp [hwritten, written, hwh, hwl, Memory.note])⟩

/-- The pseudocode with a positive percentage stops at the first transaction that fails. -/
theorem pseudoArm_run (hp : 0 < p) (s : State) : ∃ count conf conf', ArmRun p s (pseudoArm p s) count conf conf' := by
  rw [pseudoArm, if_neg (by omega)]
  cases hcount : s.readOutcome Reg.als with
  | err c =>
    exact ⟨0, 0, 0, .of_raiseBusError (.read Reg.als (.err c)) (by decide) rfl (by simp [State.added, hcount])⟩
  | ok count =>
    refine ⟨count, ?_⟩
    obtain ⟨c, u, he, htrace⟩ | ⟨conf, u, ⟨he, htrace⟩ | ⟨he, htrace, hwritten⟩⟩ :=
      pseudoRmw_cases 0 1 (s.afterRead Reg.als) <;> simp only [he]
    · exact ⟨0, 0, .of_raiseBusError (.read Reg.alsConf (.err c)) (by decide) rfl
        (by simp [State.added, htrace, hcount, armEvents])⟩
    · exact ⟨conf, 0, .of_raiseBusError (.write Reg.alsConf (AlsConf.withIntEn 0 conf) .nack) (by decide) rfl
        (by simp [State.added, htrace, hcount, armEvents])⟩
    · rw [AlsConf.withIntEn_zero] at htrace hwritten
      exact ⟨conf, pseudoArmWrites_run (fun conf' => by simp [htrace, hcount, armEvents]) hwritten⟩

/-- The machine's run, from its acceptance on. -/
theorem State.hasAccepted.armRun (hp : 0 < p) (h : s.hasAccepted (.armThreshold p)) :
    ∃ t count conf conf', untilIdle 7 s = .next t ∧ ArmRun p s t count conf conf' := by
  obtain ⟨t, hrun, -, hvis⟩ := microStepsRunThePseudocode (.armThreshold p) s h
  obtain ⟨count, conf, conf', run⟩ := pseudoArm_run hp s
  exact ⟨t, count, conf, conf', hrun, run.of_visible_eq hvis⟩

end

/-! ## The transactions before a failure (R221) -/

theorem armEvents_succeeded {p : Int} {count conf conf' : Word} :
    ∀ e ∈ armEvents p count conf conf', e.succeeded = true := by
  simp [armEvents, BusEvent.succeeded]

theorem getElem?_take_concat {α : Type} {l : List α} {j k : Nat} (hj : j < k) (hk : k ≤ l.length) (e : α) :
    (l.take k ++ [e])[j]? = l[j]? := by
  rw [List.getElem?_append_left (by rw [List.length_take]; omega), List.getElem?_take_of_lt hj]

/-- A transaction that failed wrote nothing. -/
theorem successfulWrites_concat_failed {e : BusEvent} (failure : e.succeeded = false) (es : List BusEvent) :
    successfulWrites (es ++ [e]) = successfulWrites es := by
  induction es with
  | nil =>
    cases e with
    | read reg o => rfl
    | write reg v o =>
      cases o with
      | ok => cases failure
      | nack => rfl
  | cons d es ih =>
    cases d with
    | read reg o => exact ih
    | write reg v o =>
      cases o with
      | ok => exact congrArg ((reg, v) :: ·) ih
      | nack => exact ih

/-- R221's table: the writes before each transaction. -/
theorem successfulWrites_take_armEvents {k : Nat} (hk : k ≤ 6) (p : Int) (count conf conf' : Word) :
    successfulWrites ((armEvents p count conf conf').take k) =
      [(Reg.alsConf, conf &&& 0xFFFD), (Reg.wh, (window count p).1), (Reg.wl, (window count p).2)].take
        ([0, 0, 0, 1, 2, 3, 3].getD k 0) := by
  interval_cases k <;> rfl

/-! ## The obligations -/

/-- Settles O51: where a transaction fails, the trace is what a successful run's is before it, and then the failure. -/
theorem failedArmLeavesTheWritesBeforeIt : Obligations.FailedArmLeavesTheWritesBeforeIt := by
  intro p s hp h
  obtain ⟨t, count, conf, conf', hrun, run⟩ := h.armRun hp
  cases run with
  | succeeded status trace => exact ⟨t, _, hrun, trace, .inl ⟨status, rfl, armEvents_succeeded⟩⟩
  | failed k hk e failure status step trace =>
    have hlen : (armEvents p count conf conf').length = 7 := rfl
    have htake : ((armEvents p count conf conf').take k).length = k := by rw [List.length_take]; omega
    have before {j : Nat} (hj : j < k) := getElem?_take_concat (l := armEvents p count conf conf') hj (by omega) e
    refine ⟨t, _, hrun, trace, .inr ⟨status, k, count, conf, hk, ?_, step, fun j hj => ?_, ⟨e, ?_, failure⟩,
      fun h1 => before h1, fun h2 => before h2, ?_⟩⟩
    · rw [List.length_append, htake, List.length_singleton]
    · have hj7 : j < (armEvents p count conf conf').length := by omega
      exact ⟨_, (before hj).trans (List.getElem?_eq_getElem hj7), armEvents_succeeded _ (List.getElem_mem hj7)⟩
    · rw [List.getElem?_append_right htake.le, htake, Nat.sub_self]; rfl
    · rw [successfulWrites_concat_failed failure]
      exact successfulWrites_take_armEvents hk p count conf conf'

/-- Settles O52: all seven transactions in their order, and a later write to another register keeps what an earlier one
left. -/
theorem successfulArmWritesWhileDisabled : Obligations.SuccessfulArmWritesWhileDisabled := by
  intro p s t hp h hrun hok
  obtain ⟨t', count, conf, conf', hrun', run⟩ := h.armRun hp
  obtain rfl : t' = t := by simpa [hrun'] using hrun
  cases run with
  | failed _ _ _ _ busError => simp [hok] at busError
  | succeeded _ trace result written =>
    refine ⟨count, conf, conf', trace, BitVec.lt_def.2 (window_snd_add_one_le_fst hp), result, ?_, ?_, ?_⟩ <;> rw [written]
    · exact Memory.readWord_writeWord_same _ _ _
    · rw [Memory.readWord_writeWord_of_ne (by decide), Memory.readWord_writeWord_of_ne (by decide)]
      exact Memory.readWord_writeWord_same _ _ _
    · rw [Memory.readWord_writeWord_of_ne (by decide)]
      exact Memory.readWord_writeWord_same _ _ _

end Sys2Proof.Machine
end

section
/-! PROOFS. The machine never stops: the invariant keeps `STEP` at a transaction of the running command, so no meaning
meets its end (spec 60_exceptions.md R251, R257). -/

namespace Sys2Proof.Machine

/-- A meaning answers a next state at every step before the command's transactions are all made, and at step 0. -/
theorem exec_next_of_lt {i : Instr} {s : State} (h : s.stepIx.toNat < max 1 (transactions i)) :
    ∃ t, exec i s = .next t := by
  obtain hnext | hfault := exec_next_or_fault i s
  · exact hnext
  · obtain ⟨some_transaction, beyond⟩ := (exec_eq_fault_iff i s).1 hfault
    omega

theorem State.Inv.runCur_next {s : State} (h : s.Inv) (running : s.status = .running) : ∃ t, runCur s = .next t := by
  cases cur : s.cur with
  | none => exact ⟨_, runCur_of_illegal cur⟩
  | some i =>
    obtain ⟨-, inRange, -⟩ := h.sequence running i cur
    rw [runCur_of_cur cur]
    exact exec_next_of_lt inRange

/-- Only a busy step can stop, and the invariant rules that out. -/
theorem State.Inv.step_next {s : State} (h : s.Inv) : ∃ t, step s = .next t := by
  cases reset : s.portNow.rst with
  | true => exact ⟨_, step_reset reset⟩
  | false =>
    by_cases running : s.status = .running
    · obtain ⟨t, hrun⟩ := h.runCur_next running
      exact ⟨t.advance, by rw [step_busy s reset running, hrun]; rfl⟩
    · cases offered : s.portNow.cmdValid with
      | true => exact ⟨_, step_accept reset running offered⟩
      | false => exact ⟨_, step_idle reset running offered⟩

/-- A run goes on from where its first step ends. -/
theorem run_succ_of_step {M : Host.Core} {s t : M.State} (h : M.step s = .next t) (k : Nat) :
    M.run (k + 1) s = M.run k t := by
  simp only [Host.Core.run, h]

/-- Settles O58, by induction on the number of steps: every step from the invariant answers a next state, and keeps it. -/
theorem theMachineNeverStops : Obligations.TheMachineNeverStops := by
  intro k
  induction k with
  | zero => exact fun s h => ⟨s, rfl, h⟩
  | succ k ih =>
    intro s h
    obtain ⟨t, hstep⟩ := h.step_next
    rw [run_succ_of_step (M := core) hstep]
    exact ih t (everyStepKeepsTheInvariant s t h hstep)

end Sys2Proof.Machine
end

section
/-! PROOFS. Reset and the idle state: what a reset leaves, and that only a running command touches the bus (spec
70_reset_and_hazards.md R280 to R283). -/

namespace Sys2Proof.Machine

/-- Settles O13: each of the stated values is a field of `State.reset`, and the ports are computed from the fields. -/
theorem resetStateHasTheStatedValues : Obligations.ResetStateHasTheStatedValues :=
  ⟨rfl, rfl, rfl, rfl, rfl, rfl, rfl, rfl⟩

/-- Settles O12: whatever the block is doing, the step is `resetBlock`. -/
theorem resetAbandonsAnyCommand : Obligations.ResetAbandonsAnyCommand :=
  fun _ hr => ⟨_, step_reset hr, rfl, rfl, rfl, rfl, rfl, rfl, rfl, rfl, rfl, rfl, rfl⟩

/-- GET_LENS and SET_LENS, the commands without a transaction, draw no answer. -/
theorem exec_draws_of_transactions_eq_zero {i : Instr} {s t : State} (hi : transactions i = 0)
    (h : exec i s = .next t) : t.draws = s.draws := by
  cases i with
  | getLens | setLens => cases h; rfl
  | _ => cases hi

/-- Settles O11: of the kinds of step only a micro-step can draw an answer, and of those only one of a command that has
transactions. -/
theorem onlyARunningCommandTouchesTheBus : Obligations.OnlyARunningCommandTouchesTheBus := by
  refine ⟨fun s => step_idle, fun s t h hdraws => ?_⟩
  obtain ⟨-, rfl⟩ | ⟨hr, hb, t', hrun, rfl⟩ | ⟨-, -, -, rfl⟩ | ⟨-, -, -, rfl⟩ := step_cases h
  · exact absurd rfl hdraws
  · obtain ⟨i, hc, he⟩ | ⟨-, rfl⟩ := runCur_cases hrun
    · refine ⟨hr, hb, i, hc, fun hi => hdraws ?_⟩
      rw [State.advance_draws, exec_draws_of_transactions_eq_zero hi he]
    · exact absurd rfl hdraws
  · exact absurd rfl hdraws
  · exact absurd rfl hdraws

end Sys2Proof.Machine
end

section
/-! PROOFS. How many transactions each command makes (spec 70_reset_and_hazards.md R305). A run ends as its pseudocode does,
so the transactions of the pseudocode are counted, at each of its ends. -/

namespace Sys2Proof.Machine

/-- The counts of R305 for a command that fails. GET_LENS, SET_LENS and RELEASE never do. -/
def FailsAfter : Instr → Nat → Prop
  | .begin, n => n = 3
  | .readWord _, n | .writeWord _ _, n | .readAls, n | .readClearFlags, n => n = 1
  | .getLux, n | .setIntEn _, n => n = 1 ∨ n = 2
  | .armThreshold p, n => if p ≤ 0 then n = 0 else 1 ≤ n ∧ n ≤ 7
  | .getLens, _ | .setLens _, _ | .release, _ => False

/-- From `s` to `z` a whole command `i` was run, with the number of transactions that R305 lists for its outcome. RELEASE
succeeds also where its read fails, and then the read is its only transaction (spec 41_device_state.md R156). -/
inductive CountsAsListed (i : Instr) (s z : State) : Prop where
  | succeeded {es : List BusEvent} (status : z.status = .ok) (trace : s.added z es)
      (count : es.length = transactions i)
  | failed {es : List BusEvent} (status : z.status ≠ .ok) (trace : s.added z es) (count : FailsAfter i es.length)
  | released {c : ReadCause} (cmd : i = .release) (status : z.status = .ok)
      (trace : s.added z [.read Reg.alsConf (.err c)])

section
variable {i : Instr} {s : State}

/-! ## The pseudocode of each command -/

theorem readThenFinish_counts {reg : RegAddr} {value : Word → BitVec 64} (success : transactions i = 1)
    (failure : FailsAfter i 1) : CountsAsListed i s (readThenFinish reg value s) := by
  have trace := readThenFinish_trace reg value s
  obtain ⟨c, -, he⟩ | ⟨w, -, he⟩ := readThenFinish_cases reg value s
  · exact .failed (by rw [he]; nofun) trace failure
  · exact .succeeded (by rw [he]; rfl) trace success.symm

theorem writeThenFinish_counts {reg : RegAddr} {v : Word} (success : transactions i = 1) (failure : FailsAfter i 1) :
    CountsAsListed i s (writeThenFinish reg v s) := by
  have trace := writeThenFinish_trace reg v s
  cases ho : s.writeOutcome reg v with
  | nack => exact .failed (by rw [writeThenFinish_of_nack ho]; nofun) trace failure
  | ok => exact .succeeded (by rw [writeThenFinish_of_ok ho]; rfl) trace success.symm

/-- A failing probe is BEGIN's third transaction; the four writes of the defaults follow a matching one. -/
theorem pseudoBegin_counts : CountsAsListed .begin s (pseudoBegin s) := by
  obtain ⟨o1, o2, defended⟩ := s.defended_trace
  have probed : s.added (s.defended.afterRead Reg.ident) [.write Reg.wl 0x0000 o1, .write Reg.wl 0x0000 o2,
      .read Reg.ident (s.defended.readOutcome Reg.ident)] := by
    rw [State.added, State.afterRead_trace, defended, List.append_assoc]
    rfl
  cases ho : s.defended.readOutcome Reg.ident with
  | err c =>
    rw [pseudoBegin_of_err ho]
    exact .failed nofun probed rfl
  | ok w =>
    by_cases hid : lowByte w = 0x83
    · obtain ⟨o3, o4, o5, o6, defaults⟩ := (s.defended.afterRead Reg.ident).afterDefaults_trace
      rw [probed, List.append_assoc] at defaults
      rw [pseudoBegin_of_match ho hid]
      exact .succeeded rfl defaults rfl
    · rw [pseudoBegin_of_mismatch ho hid]
      exact .failed nofun probed rfl

theorem pseudoGetLux_counts : CountsAsListed .getLux s (pseudoGetLux s) := by
  have conf_read := s.afterRead_trace Reg.alsConf
  have both_read : s.added ((s.afterRead Reg.alsConf).afterRead Reg.als) [_, _] :=
    ((s.afterRead Reg.alsConf).afterRead_trace Reg.als).trans (List.append_assoc _ _ _)
  simp only [pseudoGetLux]
  cases s.readOutcome Reg.alsConf with
  | err c => exact .failed nofun conf_read (.inl rfl)
  | ok conf =>
    simp only
    cases (s.afterRead Reg.alsConf).readOutcome Reg.als with
    | err c => exact .failed nofun both_read (.inr rfl)
    | ok count => exact .succeeded rfl both_read rfl

theorem pseudoSetIntEn_counts {en : BitVec 1} : CountsAsListed (.setIntEn en) s (pseudoSetIntEn en s) := by
  unfold pseudoSetIntEn
  obtain ⟨c, v, he, trace⟩ | ⟨w, v, ⟨he, trace⟩ | ⟨he, trace, -⟩⟩ := pseudoRmw_cases en 0 s <;> rw [he]
  · exact .failed nofun trace (.inl rfl)
  · exact .failed nofun trace (.inr rfl)
  · exact .succeeded rfl trace rfl

/-- An argument that is not positive is refused before any transaction; else the transaction `k` that fails is the last. -/
theorem pseudoArm_counts {p : Int} : CountsAsListed (.armThreshold p) s (pseudoArm p s) := by
  by_cases hp : p ≤ 0
  · rw [pseudoArm, if_pos hp]
    exact .failed nofun (List.append_nil _).symm (by rw [FailsAfter, if_pos hp]; rfl)
  · obtain ⟨count, conf, conf', run⟩ := pseudoArm_run (Int.not_le.1 hp) s
    cases run with
    | succeeded status trace => exact .succeeded status trace rfl
    | failed k hk e failure status step trace =>
      have made : ((armEvents p count conf conf').take k ++ [e]).length = k + 1 := by
        have all : (armEvents p count conf conf').length = 7 := rfl
        rw [List.length_append, List.length_take, all, List.length_singleton]
        omega
      exact .failed (by rw [status]; nofun) trace (by rw [FailsAfter, if_neg hp, made]; omega)

theorem pseudoRelease_counts : CountsAsListed .release s (pseudoRelease s) := by
  unfold pseudoRelease
  obtain ⟨c, v, he, trace⟩ | ⟨w, v, ⟨he, trace⟩ | ⟨he, trace, -⟩⟩ := pseudoRmw_cases 0 0 s <;> rw [he]
  · exact .released rfl rfl trace
  · exact .succeeded rfl trace rfl
  · exact .succeeded rfl trace rfl

theorem pseudocode_counts (i : Instr) (s : State) : CountsAsListed i s (pseudocode i s) := by
  cases i with
  | begin => exact pseudoBegin_counts
  | readWord reg => exact readThenFinish_counts rfl rfl
  | writeWord reg v => exact writeThenFinish_counts rfl rfl
  | readAls => exact readThenFinish_counts rfl rfl
  | getLux => exact pseudoGetLux_counts
  | setIntEn en => exact pseudoSetIntEn_counts
  | armThreshold p => exact pseudoArm_counts
  | readClearFlags => exact readThenFinish_counts rfl rfl
  | getLens | setLens => exact .succeeded rfl (List.append_nil _).symm rfl
  | release => exact pseudoRelease_counts

end

/-! ## The obligation -/

/-- Settles O53: the run ends as the pseudocode does, and so after as many transactions. -/
theorem transactionCountsOfEveryCommand : Obligations.TransactionCountsOfEveryCommand := by
  intro i s h
  obtain ⟨t, hrun, -, hvis⟩ := microStepsRunThePseudocode i s h
  obtain ⟨-, -, status, -, -, trace⟩ := State.eq_of_visible_eq hvis
  cases pseudocode_counts i s with
  | succeeded ok added count =>
    exact ⟨t, _, hrun, trace.trans added, fun _ _ => count,
      fun release => ⟨status.trans ok, .inr (by rw [count, release]; rfl)⟩, fun ne => absurd (status.trans ok) ne⟩
  | failed failure added count =>
    refine ⟨t, _, hrun, trace.trans added, fun _ ok => absurd (status.symm.trans ok) failure, fun release => ?_,
      fun _ => ?_⟩
    · subst release
      exact count.elim
    · cases i <;> exact count
  | released release ok added =>
    exact ⟨t, _, hrun, trace.trans added, fun ne => absurd release ne,
      fun _ => ⟨status.trans ok, .inl ⟨rfl, _, rfl⟩⟩, fun ne => absurd (status.trans ok) ne⟩

end Sys2Proof.Machine
end

section
/-! PROOFS. Two READ_CLEAR_FLAGS in a row under the premise `IfClearOnRead` (spec 70_reset_and_hazards.md R291,
20_memory.md R66; log entry 16). -/

namespace Sys2Proof.Machine

/-- A single-read command that ends with OK has read a word, and its result is that word's value. -/
theorem readThenFinish_result_of_ok {reg : RegAddr} {value : Word → BitVec 64} {s : State}
    (h : (readThenFinish reg value s).status = .ok) :
    ∃ w, s.readOutcome reg = .ok w ∧ (readThenFinish reg value s).result = value w := by
  obtain ⟨c, -, he⟩ | ⟨w, ho, he⟩ := readThenFinish_cases reg value s
  · rw [he] at h
    cases h
  · exact ⟨w, ho, by rw [he]; rfl⟩

/-- The run of two READ_CLEAR_FLAGS in a row: its events are their two reads of IF, and one that ends with OK has read a
word and answers whether that has a flag. -/
theorem State.hasAccepted.readClearFlags_twice {s : State} (h : s.hasAccepted .readClearFlags)
    (hv : (s.portAt 1).cmdValid = true) (hw : (s.portAt 1).cmdWord = encode .readClearFlags) :
    ∃ t t' u o o', untilIdle 7 s = .next t ∧ step t = .next t' ∧ untilIdle 7 t' = .next u ∧
      s.added u [.read Reg.intFlags o, .read Reg.intFlags o'] ∧ (t.status = .ok → ∃ v, o = .ok v) ∧
      (u.status = .ok → ∃ w, o' = .ok w ∧ u.result = if flagSet w then 1 else 0) := by
  have ⟨_, _, first, _⟩ := h
  obtain ⟨ht, hstep, hu⟩ := h.runs_two hv hw (decode_encode (i := .readClearFlags) trivial) (exec_readClearFlags first)
    (readThenFinish_ended _ _ s) (exec_readClearFlags (State.thenAccepts_stepIx _ _)) (readThenFinish_ended _ _ _)
  refine ⟨_, _, _, _, _, ht, hstep, hu, ?_, fun ok => (readThenFinish_result_of_ok ok).imp fun _ => And.left,
    fun ok => readThenFinish_result_of_ok ok⟩
  rw [State.added, State.advance_trace, readThenFinish_trace, State.thenAccepts_trace, readThenFinish_trace,
    List.append_assoc]
  rfl

/-- The premise on two successful reads of IF with nothing between: the second finds no flag. -/
theorem IfClearOnRead.flagSet_eq_false {crossing : Nat → Prop} {v w : Word}
    (h : IfClearOnRead crossing [.read Reg.intFlags (.ok v), .read Reg.intFlags (.ok w)]) (quiet : ¬ crossing 0) :
    flagSet w = false := by
  have between : ∀ k, 0 ≤ k → k < 1 → ¬ crossing k := fun k _ hk => Nat.lt_one_iff.1 hk ▸ quiet
  obtain ⟨low, high⟩ := h 0 1 v w Nat.zero_lt_one rfl rfl between
  rw [flagSet, low, high, Bool.or_false]

/-- Settles O55: the premise is on the two reads of IF that the run makes, and the second finds no flag. -/
theorem flagIsSeenAtMostOnce : Obligations.FlagIsSeenAtMostOnce := by
  intro s crossing h hv hw
  obtain ⟨t, t', u, o, o', ht, hstep, hu, added, first, second⟩ := h.readClearFlags_twice hv hw
  refine ⟨t, t', u, _, ht, hstep, hu, added, fun clear quiet tok uok => ?_⟩
  obtain ⟨v, rfl⟩ := first tok
  obtain ⟨w, rfl, result⟩ := second uok
  rw [result, clear.flagSet_eq_false quiet]
  rfl

end Sys2Proof.Machine
end
